-- ==== Sys2Proof/Word.lean ====
section
/-! DEFINITION. The 12-bit word of the cable, the 13-bit word of the unit's memories, and tables of fixed
length. -/

namespace Sys2Proof

/-- A 12-bit word value (00_scope, Conventions). -/
abbrev Word := BitVec 12

/-- A word as capture memory and the store hold it: bits 11 to 0 the word, bit 12 its parity bit
(R57, R139). -/
abbrev StoredWord := BitVec 13

/-- The number of a unit, 0 to 3. -/
abbrev UnitNo := Fin 4

/-- A table of exactly `n` entries. -/
structure Table (α : Type) (n : Nat) where
  items : List α
  size : items.length = n
  deriving DecidableEq, Repr

variable {α : Type} {n : Nat}

def Table.get (t : Table α n) (i : Fin n) : α :=
  t.items[i.val]'(t.size.symm ▸ i.isLt)

def Table.set (t : Table α n) (i : Fin n) (x : α) : Table α n :=
  ⟨t.items.set i.val x, by rw [List.length_set, t.size]⟩

def Table.map (t : Table α n) (f : α → α) : Table α n :=
  ⟨t.items.map f, by rw [List.length_map, t.size]⟩

/-- Each entry changed by a function of its index and itself. -/
def Table.mapWithIndex (t : Table α n) (f : Nat → α → α) : Table α n :=
  ⟨t.items.zipIdx.map fun p => f p.2 p.1, by rw [List.length_map, List.length_zipIdx, t.size]⟩

/-- The table that holds `x` in every entry. -/
def Table.fill (n : Nat) (x : α) : Table α n :=
  ⟨List.replicate n x, List.length_replicate⟩

/-- The first `n` items of a list, made up with `x` where the list is shorter. -/
def Table.ofList (n : Nat) (x : α) (l : List α) : Table α n :=
  ⟨(l ++ List.replicate n x).take n, by simp⟩

/-- The indexes of a table of `n` entries, from 0 up. -/
def indexes (n : Nat) : List (Fin n) :=
  (List.range n).filterMap fun i => if h : i < n then some ⟨i, h⟩ else none

/-- `n` raised by `k`, stopping at the top of a 12-bit count. -/
def saturate (n k : Nat) : Nat := min 4095 (n + k)

end Sys2Proof
end

