-- ==== Sys2Proof/Syntax.lean ====
section
/-! DEFINITION. The commands the unit takes, one constructor per row of the opcode table, with their operands. -/

namespace Sys2Proof

/-- A setting of SHIFT STROBE (2.1). -/
inductive Strobe where
  | normal | early | late
  deriving DecidableEq, Repr

/-- A setting of OFFSET HEADS (2.1). -/
inductive HeadOffset where
  | centre | forward | reverse
  deriving DecidableEq, Repr

/-- The words of one readout that do not read back as they were written: word number and the bits that
come back turned over. What a weak cell reads back as is the outside's to say, afresh at each readout
(R68); an empty list is a readout in which every cell is healthy. -/
abbrev ReadoutNoise := List (Nat × StoredWord)

/-- How a drive's stream ended (R7). A stream cut short ends in DRIVE FAULT or a fall of READY and is an
operand of those commands. -/
inductive Delivery where
  /-- All 260 words, read clock held. -/
  | complete (words : List Word)
  /-- No sync at the mark. -/
  | noData
  /-- The read clock was lost at a word; all 260 words as delivered. -/
  | clockLost (firstBad : Nat) (words : List Word)
  deriving DecidableEq, Repr

/-- A drive's answer to WRITE SECTOR or FORMAT TRACK (2.1). -/
inductive DriveAnswer where
  | writeDone | writeProtected
  deriving DecidableEq, Repr

/-- The five argument words of one plan step in LOAD PLAN (11.4). -/
structure StepWords where
  strobe : Word
  offset : Word
  reposition : Word
  attempts : Word
  credit : Word
  deriving DecidableEq, Repr

/-- The commands. An operand `noise` lists, readout by readout in the order the command makes them, what
its readouts of capture memory or of the store meet. Request commands carry the request's tag and argument
words as the controller wrote them. -/
inductive Instr where
  /-- POWER_ON_RESET (R18). -/
  | powerOnReset
  /-- BYPASS_OPEN (R18). -/
  | bypassOpen
  /-- POWER_LOSS (R18). -/
  | powerLoss
  /-- UNIT_SELECT (R19). -/
  | unitSelect (u : UnitNo)
  /-- SEEK (R23). -/
  | seek (cyl : Nat)
  /-- RETURN_TO_ZERO (R23). -/
  | returnToZero
  /-- READ_SECTOR (R25). -/
  | readSector (head sector : Nat) (noise : List ReadoutNoise)
  /-- WRITE_SECTOR (R38): the data words the controller sends before it breaks off, and the checkword
  when it sends the whole field. -/
  | writeSector (head sector : Nat) (data : List Word) (check : Option Word)
  /-- FORMAT_TRACK (R41): the header words the controller sends. -/
  | formatTrack (head : Nat) (headers : List Word)
  /-- CABLE_INITIALIZE (R42). -/
  | cableInitialize
  /-- INDEX_MARK (R33). -/
  | indexMark (u : UnitNo) (noise : List ReadoutNoise)
  /-- WAIT_HOLD_EXPIRY (R34). -/
  | waitHoldExpiry (u : UnitNo) (noise : List ReadoutNoise)
  /-- FAILURE_HOLD_EXPIRY (R35). -/
  | failureHoldExpiry (u : UnitNo) (noise : List ReadoutNoise)
  /-- GRANT (R47). -/
  | grant (noise : List ReadoutNoise)
  /-- SEEK_END (R50). -/
  | seekEnd (u : UnitNo) (noise : List ReadoutNoise)
  /-- SEEK_FAULT (R51). -/
  | seekFault (u : UnitNo) (noise : List ReadoutNoise)
  /-- DRIVE_FAULT (R53): the words of a stream in flight that had come before the cut. -/
  | driveFault (u : UnitNo) (arrived : List Word)
  /-- RETURN_TO_SERVICE (R54). -/
  | returnToService (u : UnitNo)
  /-- READY_FALL (R55): the words of a stream in flight that had come before the cut. -/
  | readyFall (u : UnitNo) (arrived : List Word)
  /-- READY_RISE (R56). -/
  | readyRise (u : UnitNo)
  /-- STREAM_CHECKED (R13). -/
  | streamChecked (d : Delivery) (noise : List ReadoutNoise)
  /-- WRITE_ANSWER (R38). -/
  | writeAnswer (a : DriveAnswer)
  /-- REVOLUTION_END (R131). -/
  | revolutionEnd (noise : List ReadoutNoise)
  /-- MERGE_VERDICT (R79): the job and, for a track job, the sector whose merge ends. -/
  | mergeVerdict (job sector : Nat) (noise : List ReadoutNoise)
  /-- REPORT_STATUS (R171). -/
  | reportStatus (tag : Word)
  /-- LOAD_GEOMETRY (R172). -/
  | loadGeometry (tag unit present cylinders heads sectors plan retries escalation mode : Word)
  /-- LOAD_PLAN (R173). -/
  | loadPlan (tag plan length : Word) (steps : List StepWords)
  /-- SET_POLICY (R174). -/
  | setPolicy (tag unit policy : Word)
  /-- SET_LIMITS (R175). -/
  | setLimits (tag q t h : Word)
  /-- RECOVER_SECTOR (R176). -/
  | recoverSector (tag unit cyl head sector : Word)
  /-- RECOVER_TRACK (R177). -/
  | recoverTrack (tag unit cyl head revolutions : Word)
  /-- CANCEL_JOB (R178). -/
  | cancelJob (tag job : Word)
  /-- TAKE_RECORDS (R179). -/
  | takeRecords (tag count : Word)
  /-- STORE_DIRECTORY (R180). -/
  | storeDirectory (tag start : Word)
  /-- PIN_ENTRY (R181). -/
  | pinEntry (tag unit cyl head sector : Word)
  /-- UNPIN_ENTRY (R181). -/
  | unpinEntry (tag unit cyl head sector : Word)
  /-- DROP_ENTRY (R181). -/
  | dropEntry (tag unit cyl head sector : Word)
  /-- ADOPT_ENTRIES (R182). -/
  | adoptEntries (tag unit : Word)
  /-- CLEAR (R183). -/
  | clear (tag scope : Word)
  /-- REQUEST_REFUSED (R168): a maintenance write, its data words and its checkword. -/
  | requestRefused (data : List Word) (check : Word)
  deriving DecidableEq, Repr

end Sys2Proof
end

