-- ==== Sys2Proof/Config.lean ====
section
/-! DEFINITION. The sizes and fixed words of the unit. The manual fixes all of them; no field is left open. -/

namespace Sys2Proof.Config

/-- Capture memory's slots (R57). -/
abbrev slotCount : Nat := 160

/-- The entries of the job table (R71). -/
abbrev jobEntries : Nat := 8

/-- The most entries the store holds (R139). -/
def storeCapacity : Nat := 64

/-- The most records the queue holds (R155). -/
def recordCapacity : Nat := 128

/-- The parity count that retires a bank (R69). -/
def parityLimit : Nat := 16

/-- The maintenance cylinder (R26). -/
def maintenanceCylinder : Nat := 1023

/-- The words of the results that TAKE RECORDS gives to records (R179). -/
def recordRoom : Nat := 249

/-- The most summaries one STORE DIRECTORY gives (R180). -/
def directoryRoom : Nat := 41

/-- The type word 0640 and the revision word 0001 (R171). -/
def typeWord : Word := 0o640
def revisionWord : Word := 1

/-- The word that no sum ever is, 7777 (R3). -/
def minusZero : Word := 0o7777

end Sys2Proof.Config
end

