-- ==== Sys2Proof/Machine/State.lean ====
section
/-! DEFINITION. Everything the unit holds, as plain data, and its value after power-on reset. -/

namespace Sys2Proof.Machine

/-- The number of a capture slot, 0 to 159 (R57). -/
abbrev SlotId := Fin Config.slotCount

/-- A sector's address (00_scope, Conventions). -/
structure Addr where
  unit : UnitNo
  cyl : Nat
  head : Nat
  sector : Nat
  deriving DecidableEq, Repr

/-! ### The unit table (R20) and what is kept beside it per unit -/

/-- Who issued a seek in progress (R20); a job is named by its number. -/
inductive Issuer where
  | controller | relay | job (number : Nat)
  deriving DecidableEq, Repr

/-- A seek in progress: issuer and target (R20). `givenUp`: the issuer has given the seek up, so that a
SEEK FAULT is not retried and a job is told nothing (R51, R90). `silent`: overtaken by cable initialize,
so that its SEEK END is not raised (R42). `forAction`: a command of a reposition action (R97). `home`: the
command is RETURN TO ZERO. -/
structure Motion where
  issuer : Issuer
  target : Nat
  home : Bool
  givenUp : Bool
  silent : Bool
  forAction : Bool
  deriving DecidableEq, Repr

/-- Where a seek's retry stands: RETURN TO ZERO due or under way, the repeated SEEK due or under way
(R51). -/
inductive RetryPhase where
  | homeDue | homeMoving | seekDue | seekMoving
  deriving DecidableEq, Repr

/-- A unit's seek recovery record (R44, R51). `home`: what faulted was a RETURN TO ZERO issued for
itself. -/
structure Recovery where
  issuer : Issuer
  target : Nat
  home : Bool
  used : Nat
  phase : RetryPhase
  forAction : Bool
  deriving DecidableEq, Repr

inductive HoldKind where
  | wait | failure
  deriving DecidableEq, Repr

/-- A unit's hold (R20, R33). -/
structure Hold where
  kind : HoldKind
  count : Nat
  revs : Nat
  cyl : Nat
  head : Nat
  sector : Nat
  deriving DecidableEq, Repr

inductive RelayMode where
  | checkFirst | cutThrough
  deriving DecidableEq, Repr

inductive Policy where
  | pass | block | redirect
  deriving DecidableEq, Repr

/-- A unit's geometry entry, the relay mode among its fields (R172). -/
structure Geometry where
  present : Bool
  cylinders : Nat
  heads : Nat
  sectors : Nat
  plan : Fin 4
  retryLimit : Nat
  escalation : Nat
  mode : RelayMode
  deriving DecidableEq, Repr

/-- A unit's nine counters (R163). -/
structure Counters where
  reads : Nat
  failures : Nat
  recovered : Nat
  unrecovered : Nat
  storeHits : Nat
  writesBlocked : Nat
  writesRedirected : Nat
  writesSuperseding : Nat
  fallbacks : Nat
  deriving DecidableEq, Repr

/-- All that is kept per unit: the unit table with policy and hold (R20), the geometry entry (R172), the
counters (R163), the off-track count and its track (R91), the arbiter's positioning owner and seek
recovery (R44), and the five conditions that the drive itself reports (2.1), which are inputs (logs 4, 53). -/
structure UnitEntry where
  controllerCyl : Option Nat
  driveCyl : Option Nat
  motion : Option Motion
  strobe : Option Strobe
  offset : Option HeadOffset
  seekPending : Bool
  seekFaultShown : Bool
  ready : Bool
  generation : Word
  policy : Policy
  hold : Option Hold
  geometry : Geometry
  counters : Counters
  offTrack : Nat
  countedTrack : Option (Nat × Nat)
  owner : Option Nat
  recovery : Option Recovery
  readyLine : Bool
  faultLine : Bool
  onCylinderLine : Bool
  seekFaultLine : Bool
  protectedLine : Bool
  deriving DecidableEq, Repr

/-! ### The relay's operation and the arbiter's state -/

/-- How the relay deals with a read: a pass read (R29), a CUT_THROUGH read of an address a job owns (R32),
a read outside the geometry (R25 case 6), a not-present unit's read (R25 case 4), or a read that waits for
a job (R32, R30). -/
inductive ReadKind where
  | pass | owned | outside | straight | held
  deriving DecidableEq, Repr

/-- What the current controller operation is; `receiving` is a redirected or maintenance write of which
only these words have come (R16). -/
inductive OpKind where
  | read (kind : ReadKind)
  | write (data : List Word) (check : Option Word)
  | format (headers : List Word)
  | receiving (data : List Word)
  deriving DecidableEq, Repr

/-- The current controller operation (R19): the slot a read has taken, and whether it is on the cable. -/
structure ControllerOp where
  unit : UnitNo
  cyl : Nat
  head : Nat
  sector : Nat
  kind : OpKind
  slot : Option SlotId
  issued : Bool
  deriving DecidableEq, Repr

/-- A seek command: SEEK to a cylinder, or RETURN TO ZERO. -/
inductive SeekCmd where
  | to (cyl : Nat) | zero
  deriving DecidableEq, Repr

/-- One of the relay's items (R45). A controller seek's item stays, `issued`, until its seek is over. -/
inductive Item where
  | margin (u : UnitNo)
  | seek (u : UnitNo) (cmd : SeekCmd) (issued : Bool)
  | operation (u : UnitNo)
  deriving DecidableEq, Repr

/-- The cable operations that hold the shared lines from one event to another (R43). -/
inductive CableOp where
  | readSector (head sector : Nat)
  | readTrack (head : Nat)
  | writeSector (head sector : Nat)
  | formatTrack (head : Nat)
  deriving DecidableEq, Repr

/-- Who holds the grant (R44), and for a relay read how the relay deals with it. -/
inductive Holder where
  | relay (kind : ReadKind)
  | job (number : Nat)
  deriving DecidableEq, Repr

/-- A grant in force (R43, R44): cylinder at issue (R6), the slots the read fills, the next sector mark, and
whether it is abandoned (R14, R19). -/
structure Grant where
  holder : Holder
  op : CableOp
  unit : UnitNo
  cyl : Nat
  slots : List SlotId
  nextMark : Nat
  abandoned : Bool
  deriving DecidableEq, Repr

/-! ### Capture memory (Chapter 4) -/

inductive SlotState where
  | free | filling | held | retired
  deriving DecidableEq, Repr

inductive SlotOwner where
  | relay | job (number : Nat)
  deriving DecidableEq, Repr

/-- A check outcome (R8). -/
inductive CheckOutcome where
  | clean | headerCheck | dataCheck | dropout | wrongHeader | noSync
  deriving DecidableEq, Repr

/-- A slot: its descriptor (R58) and its words; an empty list of words is a slot that nothing has been
written into since power-on. -/
structure Slot where
  state : SlotState
  owner : Option SlotOwner
  addr : Option Addr
  credit : Option Nat
  outcome : Option CheckOutcome
  dropout : Option Nat
  received : Option Word
  headerBad : Bool
  sums : List (Option Word)
  words : List StoredWord
  deriving DecidableEq, Repr

/-- A bank's parity count and retired flag (R59). -/
structure Bank where
  parity : Nat
  retired : Bool
  deriving DecidableEq, Repr

/-! ### Merges (Chapter 7) -/

inductive Verdict where
  | byVote | byTrial | byFill | conflict | ambiguous | unverified | unresolved
  deriving DecidableEq, Repr

/-- The dispute report of a merge (R121). -/
structure DisputeReport where
  disputed : Nat
  first : Option Nat
  undecided : Nat
  expected : Option Word
  received : Option Word
  deriving DecidableEq, Repr

/-- What one capture brings to a merge: its credit, the 257 values (none where erased), and its segment
sums (R107, R108, R120). -/
structure MergeCapture where
  credit : Nat
  values : List (Option Word)
  sums : List (Option Word)
  deriving DecidableEq, Repr

/-- A merge under way: its sector, the settings it began with, its captures oldest first (R106, R107). -/
structure RunningMerge where
  sector : Nat
  q : Nat
  t : Nat
  captures : List MergeCapture
  deriving DecidableEq, Repr

/-! ### Jobs (Chapters 5, 6 and 8) -/

inductive Reposition where
  | none | reseek | zero
  deriving DecidableEq, Repr

/-- A step of a retry plan (R93). -/
structure PlanStep where
  strobe : Strobe
  offset : HeadOffset
  reposition : Reposition
  attempts : Nat
  credit : Nat
  deriving DecidableEq, Repr

inductive JobKind where
  | sector | track
  deriving DecidableEq, Repr

inductive Origin where
  | readFailure | request | escalation
  deriving DecidableEq, Repr

inductive JobState where
  | queued | positioning | awaiting | capturing | merging
  deriving DecidableEq, Repr

inductive HeaderMark where
  | none | due | done
  deriving DecidableEq, Repr

/-- The results of jobs, of track sectors and of records (R86, R132, R160). -/
inductive Result where
  | clean | byVote | byTrial | byFill | unrecovered | cancelled | superseded | escalated | faulted
  | noJob | cableCheck | completed
  deriving DecidableEq, Repr

/-- A row of a track job's sector table (R123). `capturedNow`, `cleanNow`: this revolution has filed a
capture, a CLEAN one, under the sector (R129). -/
structure SectorRow where
  list : List SlotId
  firstFiled : Option SlotId
  firstClean : Option SlotId
  revsCaptured : Nat
  revsClean : Nat
  capturedNow : Bool
  cleanNow : Bool
  superseded : Bool
  outcome : Option Result
  data : Option (List Word)
  stored : Bool
  deriving DecidableEq, Repr

/-- A job record (R71, R123). The fields after `heldRevs` and before `revsRequested` are the model's own:
the slots taken for the read (R64), the reposition action's progress (R96), the claim check of R83, the
credit noted with the read (R94), whether a capture has joined since the last merge (R102), a restart in
flight (R103), a final merge (R104), and the merges under way (R107). -/
structure Job where
  number : Nat
  kind : JobKind
  unit : UnitNo
  cyl : Nat
  head : Nat
  sector : Nat
  origin : Origin
  state : JobState
  foreground : Bool
  plan : Fin 4
  stepIndex : Nat
  attempt : Nat
  headerMark : HeaderMark
  granted : Nat
  reservation : Nat
  list : List SlotId
  pin : Option SlotId
  previousSlot : Option SlotId
  attemptsMade : Nat
  lastVerdict : Option Verdict
  report : Option DisputeReport
  merged : Nat
  data : Option (List Word)
  repositionNeeded : Bool
  heldRevs : Nat
  filling : List SlotId
  actionSecond : Bool
  actionDone : Bool
  claimChecked : Bool
  readCredit : Nat
  joined : Bool
  restarted : Bool
  finalMerge : Bool
  merges : List RunningMerge
  revsRequested : Nat
  revsDone : Nat
  revOffTrack : Nat
  trackReseek : Bool
  reseeks : Nat
  rows : List SectorRow
  deriving DecidableEq, Repr

/-! ### The store (Chapter 9) -/

inductive StoreOrigin where
  | cleanMajority | vote | trial | fill | redirectedWrite
  deriving DecidableEq, Repr

/-- A store entry (R139). -/
structure Entry where
  key : Addr
  origin : StoreOrigin
  pinned : Bool
  generation : Word
  hits : Nat
  data : List StoredWord
  check : StoredWord
  damaged : Bool
  deriving DecidableEq, Repr

/-! ### Records (Chapter 10) -/

inductive Disposition where
  | notKept | stored | notStoredFull
  deriving DecidableEq, Repr

/-- A SECTOR record (R159). -/
structure SectorRecord where
  gap : Bool
  job : Nat
  addr : Addr
  origin : Option Origin
  result : Result
  lastVerdict : Option Verdict
  attempts : Nat
  merged : Nat
  report : DisputeReport
  disposition : Disposition
  heldRevs : Nat
  deriving DecidableEq, Repr

/-- A TRACK record (R162); one outcome and stored flag per sector, from sector 0 up. -/
structure TrackRecord where
  gap : Bool
  job : Nat
  unit : UnitNo
  cyl : Nat
  head : Nat
  origin : Origin
  revsDone : Nat
  reseeks : Nat
  result : Result
  sectors : List (Result × Bool)
  deriving DecidableEq, Repr

inductive Record where
  | sector (r : SectorRecord)
  | track (r : TrackRecord)
  deriving DecidableEq, Repr

/-- The latched notices of the pending notice set (R170). -/
structure Notices where
  driveFault : Bool
  bankRetired : Bool
  recordsOverflow : Bool
  jobEnded : Bool
  deriving DecidableEq, Repr

/-! ### What the unit drives on its faces -/

inductive Status where
  | notReady | seekFault | driveFault
  deriving DecidableEq, Repr

/-- An answer to the current controller operation (R19). -/
inductive Answer where
  | stream (words : List Word)
  | noData
  | writeDone
  | writeProtected
  | status (s : Status)
  deriving DecidableEq, Repr

/-- What a command makes the unit drive: at the controller face an answer, the words of a stream broken
off, an INDEX mark let through, SEEK END, or the answer to UNIT SELECT; at the drive face a command, the
words of a write or format, or a cable initialize that the joined lines pass (R18). -/
inductive Emission where
  | answer (u : UnitNo) (a : Answer)
  | brokenStream (u : UnitNo) (words : List Word)
  | index (u : UnitNo)
  | seekEnd (u : UnitNo)
  | selected (u : UnitNo)
  | driveSelect (u : UnitNo)
  | driveSeek (u : UnitNo) (cmd : SeekCmd)
  | driveStrobe (u : UnitNo) (x : Strobe)
  | driveOffset (u : UnitNo) (x : HeadOffset)
  | driveOp (u : UnitNo) (op : CableOp)
  | driveWords (u : UnitNo) (words : List Word)
  | driveInitialize
  deriving DecidableEq, Repr

/-! ### The state -/

/-- The whole state of the unit; INVENTORY.md cites the rule of each field. `joinedUnit`, `joinedOp`: the
drive that the joined lines address, and the operation in progress on them, while the bypass is closed
(R18). -/
structure State where
  powered : Bool
  bypassOpen : Bool
  joinedUnit : Option UnitNo
  joinedOp : Option (UnitNo × CableOp)
  units : Table UnitEntry 4
  controllerUnit : UnitNo
  holdLimit : Nat
  current : Option ControllerOp
  items : List Item
  grant : Option Grant
  selected : Option UnitNo
  slots : Table Slot Config.slotCount
  banks : Table Bank 2
  jobs : Table (Option Job) Config.jobEntries
  nextJob : Nat
  plans : Table (List PlanStep) 4
  q : Nat
  t : Nat
  store : List Entry
  storeFull : Bool
  records : List Record
  gapPending : Bool
  response : Table Word 256
  readMark : Bool
  notices : Notices
  out : List Emission
  noise : List ReadoutNoise
  pending : List Instr
  deriving DecidableEq, Repr

/-- Why a command stops the unit: no reason. The manual gives every event an effect on the state. -/
inductive Fault where
  deriving DecidableEq, Repr

/-- Why a command has no meaning. `notModelled` is raised by an arm of `exec` that awaits its meaning, and
by none now; it is safe. -/
inductive Refusal where
  | notModelled (mnemonic : String)
  deriving DecidableEq, Repr

/-! ### Power-on values -/

/-- A slot's descriptor when it belongs to no one (R58). -/
def Slot.free : Slot :=
  { state := .free, owner := none, addr := none, credit := none, outcome := none, dropout := none,
    received := none, headerBad := false, sums := List.replicate 16 none, words := [] }

def Geometry.reset : Geometry :=
  { present := false, cylinders := 1000, heads := 16, sectors := 24, plan := 0, retryLimit := 3,
    escalation := 3, mode := .checkFirst }

def Counters.zero : Counters :=
  { reads := 0, failures := 0, recovered := 0, unrecovered := 0, storeHits := 0, writesBlocked := 0,
    writesRedirected := 0, writesSuperseding := 0, fallbacks := 0 }

def UnitEntry.reset : UnitEntry :=
  { controllerCyl := none, driveCyl := none, motion := none, strobe := none, offset := none,
    seekPending := false, seekFaultShown := false, ready := false, generation := 0, policy := .block,
    hold := none, geometry := Geometry.reset, counters := Counters.zero, offTrack := 0,
    countedTrack := none, owner := none, recovery := none, readyLine := false, faultLine := false,
    onCylinderLine := false, seekFaultLine := false, protectedLine := false }

/-- The default plan (6.2). -/
def defaultPlan : List PlanStep :=
  [⟨.normal, .centre, .none, 2, 3⟩, ⟨.early, .centre, .none, 1, 2⟩, ⟨.late, .centre, .none, 1, 2⟩,
   ⟨.normal, .forward, .none, 1, 2⟩, ⟨.normal, .reverse, .none, 1, 2⟩, ⟨.normal, .centre, .reseek, 2, 3⟩,
   ⟨.early, .forward, .none, 1, 1⟩, ⟨.late, .reverse, .none, 1, 1⟩]

/-- The state at the end of power-on reset, the bypass still closed (R18, R20, R44, R58, R59, R71, R73,
R93, R106, R139, R147, R155, R163, R167, R170, R172). DESIGN CHOICE, unsafe: the drive lines and READY as
last seen (logs 4, 5, 53), the contents of capture memory (log 6) and the joined lines (log 52). -/
def State.reset : State :=
  { powered := true, bypassOpen := false, joinedUnit := none, joinedOp := none,
    units := Table.fill 4 UnitEntry.reset, controllerUnit := 0,
    holdLimit := 6, current := none, items := [], grant := none, selected := none,
    slots := Table.fill Config.slotCount Slot.free, banks := Table.fill 2 ⟨0, false⟩,
    jobs := Table.fill Config.jobEntries none, nextJob := 1, plans := Table.fill 4 defaultPlan, q := 5,
    t := 2, store := [], storeFull := false, records := [], gapPending := false,
    response := Table.fill 256 0, readMark := true, notices := ⟨false, false, false, false⟩, out := [],
    noise := [], pending := [] }

end Sys2Proof.Machine
end

