-- ==== Sys2Proof/Machine/Check.lean ====
section
/-! DEFINITION. The checkword arithmetic, the parity bit, the sector stream and the check unit's judgement of
a stream (Chapter 1). -/

namespace Sys2Proof.Machine

/-! ### Sums and parity -/

/-- The total of the words' values as ordinary numbers. -/
def wordTotal (l : List Word) : Nat := l.foldl (fun a w => a + w.toNat) 0

/-- The sum of a list of words (R3). -/
def wordSum (l : List Word) : Word := BitVec.ofNat 12 (wordTotal l % 4095)

/-- Thirteen bits that hold an odd number of ones (R57). -/
def parityGood (c : StoredWord) : Bool :=
  (List.range 13).foldl (fun b i => b ^^ c.getLsbD i) false

/-- A word with the thirteenth bit that makes its ones odd (R57, R139). -/
def storeWord (w : Word) : StoredWord :=
  if parityGood (w.setWidth 13) then w.setWidth 13 else w.setWidth 13 ||| 4096#13

/-- The word of a stored word. -/
def wordOf (c : StoredWord) : Word := c.setWidth 12

/-- What the stored word at place `k` comes back as in a readout that meets `noise`. -/
def disturb (noise : ReadoutNoise) (k : Nat) (c : StoredWord) : StoredWord :=
  noise.foldl (fun c p => if p.1 = k then c ^^^ p.2 else c) c

/-- A stored word read out with its parity checked; none where parity fails (R68). -/
def readStored (noise : ReadoutNoise) (k : Nat) (c : StoredWord) : Option Word :=
  if parityGood (disturb noise k c) then some (wordOf (disturb noise k c)) else none

/-! ### Streams -/

/-- The head–sector word (R1). -/
def headSectorWord (head sector : Nat) : Word := BitVec.ofNat 12 (head * 32 + sector)

/-- The address a header names: cylinder, head and sector (R2). -/
def headerNames (words : List Word) : Nat × Nat × Nat :=
  ((words.getD 0 0).toNat, (words.getD 1 0).toNat / 32, (words.getD 1 0).toNat % 32)

/-- The header sum matches (R4). -/
def headerGood (words : List Word) : Bool :=
  wordSum [words.getD 0 0, words.getD 1 0] = words.getD 2 0

/-- Exactly 260 words, 0000 where none came (R7). -/
def streamWords (words : List Word) : List Word := (words ++ List.replicate 260 0).take 260

/-- The 256 data words of a stream (R1). -/
def dataOf (words : List Word) : List Word := (words.drop 3).take 256

/-- The data checkword of a stream (R1). -/
def checkwordOf (words : List Word) : Word := words.getD 259 0

/-- A stream the unit composes (R17). -/
def composedStream (cyl head sector : Nat) (data : List Word) : List Word :=
  let w0 : Word := BitVec.ofNat 12 cyl
  let w1 := headSectorWord head sector
  [w0, w1, wordSum [w0, w1]] ++ data ++ [wordSum data]

/-- The words a stream delivered; none for NO DATA (R7). -/
def deliveredWords : Delivery → Option (List Word)
  | .complete words => some (streamWords words)
  | .noData => none
  | .clockLost _ words => some (streamWords words)

/-- The word at which the read clock was lost (R7). -/
def lossWord : Delivery → Option Nat
  | .clockLost w _ => if w < 260 then some w else none
  | _ => none

/-- The words of segment `k` (R5). -/
def segmentOf (k : Nat) (data : List Word) : List Word := (data.drop (16 * k)).take 16

/-- The 16 segment sums, absent from the segment of the dropout start on (R5, R12). -/
def segmentSums (data : List Word) (dropout : Option Nat) : List (Option Word) :=
  (List.range 16).map fun k =>
    match dropout with
    | none => some (wordSum (segmentOf k data))
    | some d => if 16 * k + 16 ≤ d then some (wordSum (segmentOf k data)) else none

/-- What the check unit finds on one stream (R8, R12); `sector` is the sector of the address the stream is
filed under, `named` the address its header names (R13). -/
structure Finding where
  outcome : CheckOutcome
  sector : Nat
  dropout : Option Nat
  received : Option Word
  headerBad : Bool
  sums : List (Option Word)
  named : Nat × Nat × Nat
  deriving DecidableEq, Repr

/-- A stream of which nothing but the outcome is kept (R12). -/
def bareFinding (o : CheckOutcome) (sector : Nat) (named : Nat × Nat × Nat) : Finding :=
  { outcome := o, sector := sector, dropout := none, received := none, headerBad := false,
    sums := List.replicate 16 none, named := named }

/-- Rows 4 to 8 of R8: a stream whose clock held, and whose header does not name another address. -/
def judgeChecked (sector : Nat) (words : List Word) : Finding :=
  let good := headerGood words
  let check := checkwordOf words
  let outcome :=
    if check = Config.minusZero then CheckOutcome.dataCheck
    else if wordSum (dataOf words) = check then (if good then .clean else .headerCheck)
    else .dataCheck
  { outcome := outcome, sector := sector, dropout := none, received := some check,
    headerBad := outcome = .dataCheck && !good, sums := segmentSums (dataOf words) none,
    named := headerNames words }

/-- Rows 2 to 8 of R8: a stream with a header, its clock lost at `lost` if at all. -/
def judgeWords (cyl head sector : Nat) (lost : Option Nat) (words : List Word) : Finding :=
  if headerGood words ∧ headerNames words ≠ (cyl, head, sector) then
    bareFinding .wrongHeader sector (headerNames words)
  else
    match lost with
    | some w =>
      { outcome := .dropout, sector := sector, dropout := some (w - 3), received := none,
        headerBad := !headerGood words, sums := segmentSums (dataOf words) (some (w - 3)),
        named := headerNames words }
    | none => judgeChecked sector words

/-- The check outcome of a READ SECTOR's stream, expected at cylinder, head and sector (R8). -/
def judge (cyl head sector : Nat) (d : Delivery) : Finding :=
  match deliveredWords d, lossWord d with
  | none, _ => bareFinding .noSync sector (cyl, head, sector)
  | some words, some w =>
    if w < 3 then bareFinding .noSync sector (cyl, head, sector)
    else judgeWords cyl head sector (some w) words
  | some words, none => judgeWords cyl head sector none words

/-- The sector a stream of a READ TRACK is expected at (R11): the sector of this track that a good header
names, otherwise the sector of its mark. -/
def trackSector (cyl head mark sectors : Nat) (d : Delivery) : Nat :=
  match deliveredWords d with
  | none => mark
  | some words =>
    if headerGood words ∧ (headerNames words).1 = cyl ∧ (headerNames words).2.1 = head ∧
        (headerNames words).2.2 < sectors then (headerNames words).2.2
    else mark

/-- The check outcome of a READ TRACK's stream at one mark (R11). -/
def judgeTrack (cyl head mark sectors : Nat) (d : Delivery) : Finding :=
  judge cyl head (trackSector cyl head mark sectors d) d

/-- A stream that is kept: it stays with its issuer (R13). -/
def keptOutcome : CheckOutcome → Bool
  | .clean | .headerCheck | .dataCheck | .dropout => true
  | .wrongHeader | .noSync => false

/-! ### Writes -/

/-- The check unit's result on a data field the controller writes whole (R15): MATCH. -/
def writeMatches (data : List Word) (check : Word) : Bool := wordSum data = check

end Sys2Proof.Machine
end

