-- ==== Sys2Proof/Machine/Ops.lean ====
section
/-! DEFINITION. The named operations over the state that every block uses: units, counters, emissions, jobs,
records and notices. -/

namespace Sys2Proof.Machine

/-! ### Units -/

/-- The entry of unit `u`. -/
def State.unit (s : State) (u : UnitNo) : UnitEntry := s.units.get u

/-- The entry of unit `u` changed. -/
def modUnit (u : UnitNo) (f : UnitEntry → UnitEntry) (s : State) : State :=
  { s with units := s.units.set u (f (s.unit u)) }

/-- One of a unit's counters advanced (R163). -/
def count (u : UnitNo) (f : Counters → Counters) (s : State) : State :=
  modUnit u (fun e => { e with counters := f e.counters }) s

def countReads (u : UnitNo) : State → State :=
  count u fun c => { c with reads := saturate c.reads 1 }
def countFailures (u : UnitNo) : State → State :=
  count u fun c => { c with failures := saturate c.failures 1 }
def countRecovered (u : UnitNo) (k : Nat) : State → State :=
  count u fun c => { c with recovered := saturate c.recovered k }
def countUnrecovered (u : UnitNo) (k : Nat) : State → State :=
  count u fun c => { c with unrecovered := saturate c.unrecovered k }
def countStoreHits (u : UnitNo) : State → State :=
  count u fun c => { c with storeHits := saturate c.storeHits 1 }
def countBlocked (u : UnitNo) : State → State :=
  count u fun c => { c with writesBlocked := saturate c.writesBlocked 1 }
def countRedirected (u : UnitNo) : State → State :=
  count u fun c => { c with writesRedirected := saturate c.writesRedirected 1 }
def countSuperseding (u : UnitNo) (k : Nat) : State → State :=
  count u fun c => { c with writesSuperseding := saturate c.writesSuperseding k }
def countFallbacks (u : UnitNo) : State → State :=
  count u fun c => { c with fallbacks := saturate c.fallbacks 1 }

/-! ### The faces -/

/-- The unit drives `e` at one of its faces. -/
def emit (e : Emission) (s : State) : State := { s with out := s.out ++ [e] }

/-- The drive face has unit `u` selected, with a UNIT SELECT where it has another or none (R43, R44). -/
def selectDrive (u : UnitNo) (s : State) : State :=
  if s.selected = some u then s else emit (.driveSelect u) { s with selected := some u }

/-! ### Jobs -/

/-- The jobs of the table, in entry order. -/
def State.jobList (s : State) : List Job := s.jobs.items.filterMap id

/-- The job with a number. -/
def State.job (s : State) (n : Nat) : Option Job := s.jobList.find? fun j => j.number = n

/-- The record of job `n` changed. -/
def modJob (n : Nat) (f : Job → Job) (s : State) : State :=
  { s with jobs := s.jobs.map fun e => e.map fun j => if j.number = n then f j else j }

/-- The entry of job `n` emptied (R87 step 8). -/
def dropJob (n : Nat) (s : State) : State :=
  { s with jobs := s.jobs.map fun e => e.filter fun j => j.number ≠ n }

/-- The lowest-numbered empty entry (log 12). -/
def State.emptyEntry (s : State) : Option (Fin Config.jobEntries) :=
  (indexes Config.jobEntries).find? fun e => (s.jobs.get e).isNone

/-- A job put into the lowest empty entry. -/
def addJob (j : Job) (s : State) : State :=
  match s.emptyEntry with
  | none => s
  | some e => { s with jobs := s.jobs.set e (some j) }

/-- The foreground job (R80). -/
def State.foregroundJob (s : State) : Option Job := s.jobList.find? fun j => j.foreground

/-- The sector job of an address (R72). -/
def State.sectorJob (s : State) (a : Addr) : Option Job :=
  s.jobList.find? fun j =>
    j.kind = .sector && j.unit = a.unit && j.cyl = a.cyl && j.head = a.head && j.sector = a.sector

/-- The track job of a track (R72). -/
def State.trackJob (s : State) (u : UnitNo) (cyl head : Nat) : Option Job :=
  s.jobList.find? fun j => j.kind = .track && j.unit = u && j.cyl = cyl && j.head = head

/-- `x` put into an ordered list before the first item of a greater key. -/
def insertBy {α : Type} (key : α → Nat) (x : α) : List α → List α
  | [] => [x]
  | y :: l => if key x < key y then x :: y :: l else y :: insertBy key x l

/-- A list put into the order of its keys, items of equal key as they stood. -/
def sortBy {α : Type} (key : α → Nat) (l : List α) : List α :=
  l.foldl (fun acc x => insertBy key x acc) []

/-- The numbers of the jobs that meet `p`, ascending (R87). -/
def State.jobNumbers (s : State) (p : Job → Bool) : List Nat :=
  sortBy id ((s.jobList.filter p).map Job.number)

/-- A job's class in the grant order (R47). -/
def jobClass (j : Job) : Nat :=
  match j.kind, j.origin with
  | .track, _ => 1
  | .sector, .request => 2
  | .sector, _ => 3

/-- A background job's key as one number: class, then unit, then job number (R47). -/
def jobKey (j : Job) : Nat := (jobClass j * 4 + j.unit.val) * 256 + j.number

/-- The jobs in the grant order: the foreground job, then the others by key (R47). -/
def State.grantOrder (s : State) : List Job :=
  sortBy (fun j => if j.foreground then 0 else jobKey j) s.jobList

/-- The step a job reads under: of its plan, the step of its step index, or for a track job the step of the
revolution to come (R94, R126). -/
def State.stepOf (s : State) (j : Job) : PlanStep :=
  let plan := s.plans.get j.plan
  let k := match j.kind with
    | .sector => j.stepIndex - 1
    | .track => j.revsDone % plan.length
  plan.getD k ⟨.normal, .centre, .none, 1, 1⟩

/-! ### Records and notices -/

def setGap (gap : Bool) : Record → Record
  | .sector r => .sector { r with gap := gap }
  | .track r => .track { r with gap := gap }

/-- A record handed to the record queue (R156). -/
def appendRecord (r : Record) (s : State) : State :=
  if s.records.length < Config.recordCapacity then
    { s with records := s.records ++ [setGap s.gapPending r], gapPending := false }
  else { s with notices := { s.notices with recordsOverflow := true }, gapPending := true }

def noteDriveFault (s : State) : State := { s with notices := { s.notices with driveFault := true } }
def noteBankRetired (s : State) : State := { s with notices := { s.notices with bankRetired := true } }
def noteJobEnded (s : State) : State := { s with notices := { s.notices with jobEnded := true } }

/-- The dispute fields of a record whose job wrote no merge (R161). -/
def DisputeReport.empty : DisputeReport :=
  { disputed := 0, first := none, undecided := 0, expected := none, received := none }

/-! ### The relay's items -/

/-- The item's unit. -/
def Item.unit : Item → UnitNo
  | .margin u => u
  | .seek u _ _ => u
  | .operation u => u

def Item.isOperation : Item → Bool
  | .operation _ => true
  | _ => false

def Item.isSeekOf (u : UnitNo) : Item → Bool
  | .seek v _ _ => v = u
  | _ => false

def Item.isIssuedSeekOf (u : UnitNo) : Item → Bool
  | .seek v _ issued => v = u && issued
  | _ => false

def addItem (i : Item) (s : State) : State := { s with items := s.items ++ [i] }

/-- A margin item for unit `u`, where it has none (R45, log 30). -/
def addMarginItem (u : UnitNo) (s : State) : State :=
  if s.items.contains (.margin u) then s else addItem (.margin u) s

/-- Margin items whose unit has NORMAL and CENTRE are gone, whoever set them (R45). -/
def dropSettledMargins (s : State) : State :=
  { s with items := s.items.filter fun
      | .margin u => ¬((s.unit u).strobe = some .normal ∧ (s.unit u).offset = some .centre)
      | _ => true }

def dropSeekItems (u : UnitNo) (s : State) : State :=
  { s with items := s.items.filter fun i => !i.isSeekOf u }

/-- The seek item of unit `u` whose seek is over goes (R45). -/
def dropIssuedSeek (u : UnitNo) (s : State) : State :=
  { s with items := s.items.filter fun i => !i.isIssuedSeekOf u }

/-- The current operation is over: it and its item go (R19, R45). -/
def clearOperation (s : State) : State :=
  { s with current := none, items := s.items.filter fun i => !i.isOperation }

/-! ### One command -/

/-- A command begins: nothing driven yet, and the readouts it makes meet `noise`. -/
def beginCommand (noise : List ReadoutNoise) (s : State) : State := { s with out := [], noise := noise }

/-- A command is over: its readouts are made. -/
def endCommand (s : State) : State := { s with noise := [] }

/-- A command of the cable's lines (R18): with the bypass open the unit's logic takes it and does `f`; with
the bypass closed the joined lines pass it, which is `joined`. -/
def throughRelay (noise : List ReadoutNoise) (joined f : State → State) (s : State) : State :=
  if s.bypassOpen then endCommand (f (beginCommand noise s)) else endCommand (joined (beginCommand [] s))

/-- A command of the unit's own logic: nothing while the bypass is closed (R18). -/
def whenOpen (noise : List ReadoutNoise) (f : State → State) (s : State) : State :=
  throughRelay noise id f s

/-! ### The joined lines (R18) -/

/-- The heads of unit `u`'s drive begin to move (2.1): no ON CYLINDER, and no SEEK FAULT any more (log 53). -/
def headsMove (u : UnitNo) : State → State :=
  modUnit u fun e => { e with onCylinderLine := false, seekFaultLine := false }

/-- The drive's own answer to a read, word for word. -/
def deliveryAnswer (d : Delivery) : Answer :=
  match deliveredWords d with
  | some words => .stream words
  | none => .noData

def writeAnswerOf : DriveAnswer → Answer
  | .writeDone => .writeDone
  | .writeProtected => .writeProtected

/-- The words of a broken-off stream that have gone up, when any had. -/
def emitBroken (u : UnitNo) (arrived : List Word) (s : State) : State :=
  if arrived.isEmpty then s else emit (.brokenStream u arrived) s

/-- What the joined lines carry to the drive they address; nothing where they address none (log 52). -/
def toJoined (f : UnitNo → State → State) (s : State) : State :=
  match s.joinedUnit with
  | none => s
  | some u => f u s

def joinedSelect (u : UnitNo) (s : State) : State :=
  emit (.driveSelect u) { s with joinedUnit := some u }

def joinedSeek (cmd : SeekCmd) : State → State :=
  toJoined fun u s => headsMove u (emit (.driveSeek u cmd) s)

def joinedRead (head sector : Nat) : State → State :=
  toJoined fun u s =>
    emit (.driveOp u (.readSector head sector)) { s with joinedOp := some (u, .readSector head sector) }

/-- A write or format passes with the words that the controller sends. -/
def joinedWrite (op : CableOp) (words : List Word) : State → State :=
  toJoined fun u s =>
    emit (.driveWords u words) (emit (.driveOp u op) { s with joinedOp := some (u, op) })

/-- Cable initialize clears the joined lines too (log 52). -/
def joinedInitialize (s : State) : State := emit .driveInitialize { s with joinedOp := none }

/-- The stream of the READ SECTOR on the joined lines. -/
def joinedStream (d : Delivery) (s : State) : State :=
  match s.joinedOp with
  | some (u, .readSector _ _) => emit (.answer u (deliveryAnswer d)) { s with joinedOp := none }
  | _ => s

/-- The drive's answer to the write or format on the joined lines. -/
def joinedAnswer (a : DriveAnswer) (s : State) : State :=
  match s.joinedOp with
  | some (u, .writeSector _ _) | some (u, .formatTrack _) =>
    emit (.answer u (writeAnswerOf a)) { s with joinedOp := none }
  | _ => s

/-- The drive of unit `u` stops in the operation that it has on the joined lines. -/
def joinedCut (u : UnitNo) (arrived : List Word) (s : State) : State :=
  match s.joinedOp with
  | none => s
  | some (v, op) =>
    if v ≠ u then s
    else match op with
      | .readSector _ _ => emitBroken u arrived { s with joinedOp := none }
      | _ => { s with joinedOp := none }

end Sys2Proof.Machine
end

