-- ==== Sys2Proof/Machine/Capture.lean ====
section
/-! DEFINITION. Capture memory: slots, reservations, taking and releasing, readouts, parity counts and bank
retirement (Chapter 4). -/

namespace Sys2Proof.Machine

/-! ### Slots and counts -/

/-- The bank of a slot: 0 for even numbers, 1 for odd ones (R57). -/
def bankOf (i : SlotId) : Fin 2 := ⟨i.val % 2, Nat.mod_lt _ (by decide)⟩

def otherBank (b : Fin 2) : Fin 2 := if b = 0 then 1 else 0

def State.slot (s : State) (i : SlotId) : Slot := s.slots.get i

def modSlot (i : SlotId) (f : Slot → Slot) (s : State) : State :=
  { s with slots := s.slots.set i (f (s.slot i)) }

def State.bankRetired (s : State) (b : Fin 2) : Bool := (s.banks.get b).retired

/-- Both banks are out of service (R70). -/
def State.allRetired (s : State) : Bool := s.bankRetired 0 && s.bankRetired 1

def State.freeCount (s : State) : Nat := s.slots.items.countP fun x => x.state = .free

def State.retiredCount (s : State) : Nat := s.slots.items.countP fun x => x.state = .retired

/-- The slots job `n` has FILLING or HELD (R60). -/
def State.holding (s : State) (n : Nat) : Nat := s.slots.items.countP fun x => x.owner = some (.job n)

/-- A job's claim: its reservation less its holding (R60). -/
def State.claim (s : State) (j : Job) : Nat := j.reservation - s.holding j.number

/-- The sum of the claims of all jobs (R60). -/
def State.totalReserved (s : State) : Nat := s.jobList.foldl (fun a j => a + s.claim j) 0

/-- The FREE slots less the total reserved count (R60). -/
def State.available (s : State) : Nat := s.freeCount - s.totalReserved

/-- The lowest-numbered FREE slot of those that meet `p`. -/
def State.lowestFree (s : State) (p : SlotId → Bool) : Option SlotId :=
  (indexes Config.slotCount).find? fun i => (s.slot i).state = .free && p i

/-! ### Reservations -/

/-- The claim of one job cut by as much of the shortfall as it allows (R69). -/
def trimClaim (s : State) (j : Job) : State :=
  modJob j.number (fun x => { x with
    reservation := x.reservation - min (s.totalReserved - s.freeCount) (s.claim x) }) s

/-- The shortfall of a retirement trimmed from the jobs, in the reverse of the grant order (R69). -/
def trimClaims (s : State) : State := s.grantOrder.reverse.foldl trimClaim s

/-- A shortened job's reservation raised toward the granted one by what is available (R70). -/
def restoreJob (s : State) (j : Job) : State :=
  modJob j.number (fun x => { x with
    reservation := x.reservation + min (x.granted - x.reservation) s.available }) s

/-- A job is shortened: its reservation has fallen below the granted one (R69). -/
def State.anyShortened (s : State) : Bool := s.jobList.any fun j => j.reservation < j.granted

/-- Reservations restored in the grant order while slots are available (R70). -/
def restoreReservations (s : State) : State := s.grantOrder.foldl restoreJob s

/-- The largest size granted to a job of preferred size `preferred`, minimum `least` and step `step`, when
`room` slots can be had (R61); none when the request is refused. -/
def grantSize (preferred least step room : Nat) : Option Nat :=
  let size := (min preferred room) / step * step
  if least ≤ size then some size else none

/-- The room a creation has: the available count, plus the reservations of the jobs it ends, less the slots
those hold in retired banks (R61). -/
def State.room (s : State) (ended : List Job) : Nat :=
  let reservations := ended.foldl (fun a j => a + j.reservation) 0
  let lost := (indexes Config.slotCount).countP fun i =>
    s.bankRetired (bankOf i) && ended.any fun j => (s.slot i).owner = some (.job j.number)
  s.available + reservations - lost

/-! ### Retirement and readouts -/

/-- Bank `b` is retired: its FREE slots go, BANK_RETIRED is set, and claims are trimmed (R69). -/
def retireBank (b : Fin 2) (s : State) : State :=
  let s := { s with
    banks := s.banks.set b { s.banks.get b with retired := true }
    slots := s.slots.mapWithIndex fun i x =>
      if i % 2 = b.val ∧ x.state = .free then { x with state := .retired } else x }
  trimClaims (noteBankRetired s)

/-- One more parity failure of bank `b`, up to 16; the sixteenth retires it (R68, R69). -/
def countParity (b : Fin 2) (s : State) : State :=
  let bank := s.banks.get b
  if Config.parityLimit ≤ bank.parity then s
  else
    let s := { s with banks := s.banks.set b { bank with parity := bank.parity + 1 } }
    if bank.parity + 1 = Config.parityLimit then retireBank b s else s

/-- What the next readout meets. -/
def State.nextNoise (s : State) : ReadoutNoise := s.noise.headD []

/-- A readout of `len` words of slot `i` from word `start` (R68): the words, none where parity fails. A
readout with a failing word counts once against the slot's bank. -/
def readSlot (i : SlotId) (start len : Nat) (s : State) : List (Option Word) × State :=
  let cells := (((s.slot i).words ++ List.replicate 260 (storeWord 0)).drop start).take len
  let words := (cells.zipIdx start).map fun p => readStored s.nextNoise p.2 p.1
  let s := { s with noise := s.noise.tail }
  (words, if words.all Option.isSome then s else countParity (bankOf i) s)

/-- All words of a readout, when none failed. -/
def allWords (words : List (Option Word)) : Option (List Word) :=
  if words.all Option.isSome then some (words.filterMap id) else none

/-- A delivery readout to compose or to store: words 3 to 258 (R68); none when it failed. -/
def readData (i : SlotId) (s : State) : Option (List Word) × State :=
  ((allWords (readSlot i 3 256 s).1), (readSlot i 3 256 s).2)

/-- A delivery readout to forward word for word: all 260 words (R68); none when it failed. -/
def readWhole (i : SlotId) (s : State) : Option (List Word) × State :=
  ((allWords (readSlot i 0 260 s).1), (readSlot i 0 260 s).2)

/-- A merge readout: positions 0 to 256 (R68). -/
def readPositions (i : SlotId) (s : State) : List (Option Word) × State := readSlot i 3 257 s

/-! ### Taking, filling and releasing -/

/-- A slot goes back: its descriptor takes the FREE values, its words stay (R58, R67). -/
def freeSlot (i : SlotId) (s : State) : State :=
  modSlot i (fun x => { Slot.free with
    words := x.words, state := if s.bankRetired (bankOf i) then .retired else .free }) s

/-- A slot released by its owner (R67). -/
def releaseSlot (i : SlotId) (s : State) : State :=
  match (s.slot i).owner with
  | none => s
  | some .relay => restoreReservations (freeSlot i s)
  | some (.job n) =>
    if s.bankRetired (bankOf i) && s.available = 0 then
      freeSlot i (modJob n (fun j => { j with reservation := j.reservation - 1 }) s)
    else freeSlot i s

def releaseSlots (l : List SlotId) (s : State) : State := l.foldl (fun s i => releaseSlot i s) s

/-- Every slot of job `n` released (R62). -/
def releaseJobSlots (n : Nat) (s : State) : State :=
  releaseSlots ((indexes Config.slotCount).filter fun i => (s.slot i).owner = some (.job n)) s

/-- The slot becomes FILLING for an owner (R57). -/
def fillFor (o : SlotOwner) (i : SlotId) (s : State) : State :=
  modSlot i (fun x => { x with state := .filling, owner := some o }) s

/-- The relay's slot for a pass read: the lowest FREE slot while the available count is 1 or more
(R63). -/
def takeRelaySlot (s : State) : Option SlotId × State :=
  if s.available = 0 then (none, s)
  else match s.lowestFree fun _ => true with
    | none => (none, s)
    | some i => (some i, fillFor .relay i s)

/-- The slot job `j` takes next: the lowest FREE slot of the bank opposite its previous slot's, or bank 0
when it has had none, otherwise of the other bank (R64). -/
def State.nextJobSlot (s : State) (j : Job) : Option SlotId :=
  let bank : Fin 2 := match j.previousSlot with
    | none => 0
    | some i => otherBank (bankOf i)
  match s.lowestFree fun i => bankOf i = bank with
  | some i => some i
  | none => s.lowestFree fun _ => true

/-- Job `n` takes one slot for its read (R64). -/
def takeJobSlot (n : Nat) (s : State) : State :=
  match s.job n with
  | none => s
  | some j =>
    match s.nextJobSlot j with
    | none => s
    | some i =>
      modJob n (fun j => { j with previousSlot := some i, filling := j.filling ++ [i] })
        (fillFor (.job n) i s)

/-- Job `n` takes `k` slots, one after another (R64). -/
def takeJobSlots (n : Nat) : Nat → State → State
  | 0, s => s
  | k + 1, s => takeJobSlots n k (takeJobSlot n s)

/-- The stream of a slot has ended (R7, R12, R65): its words are stored with parity; a kept stream's
findings go into the descriptor and the slot is HELD; the slot of a WRONG_HEADER or NO_SYNC stream is
released. `a` is the address the stream is filed under. -/
def closeSlot (i : SlotId) (a : Addr) (d : Delivery) (f : Finding) (s : State) : State :=
  let s := match deliveredWords d with
    | none => s
    | some words => modSlot i (fun x => { x with words := words.map storeWord }) s
  if keptOutcome f.outcome then
    modSlot i (fun x => { x with
      state := .held, addr := some a, outcome := some f.outcome, dropout := f.dropout,
      received := f.received, headerBad := f.headerBad, sums := f.sums }) s
  else releaseSlot i s

/-- A stream cut short leaves its words before the cut and 0000 after it in the slot (R7). -/
def cutSlot (i : SlotId) (arrived : List Word) (s : State) : State :=
  modSlot i (fun x => { x with words := (streamWords arrived).map storeWord }) s

/-- A capture's credit written into its descriptor (R58, R82). -/
def setCredit (i : SlotId) (credit : Nat) (s : State) : State :=
  modSlot i (fun x => { x with credit := some credit }) s

/-- A HELD slot of the relay handed to job `n` with credit 3 (R66). The job's claim falls by 1, and what that
makes available goes to shortened jobs (R70, log 51). -/
def handSlot (i : SlotId) (n : Nat) (s : State) : State :=
  restoreReservations (modJob n (fun j => { j with previousSlot := some i })
    (modSlot i (fun x => { x with owner := some (.job n), credit := some 3 }) s))

/-- The capture R83 would release: the unpinned one of lowest credit, the oldest of those. -/
def State.releaseChoice (s : State) (j : Job) : Option SlotId :=
  (j.list.filter fun i => j.pin ≠ some i).foldl (fun best i =>
    match best with
    | none => some i
    | some b => if (s.slot i).credit.getD 0 < (s.slot b).credit.getD 0 then some i else some b) none

/-- A capture leaves a sector job's list and its slot is released (R82). -/
def releaseCapture (n : Nat) (i : SlotId) (s : State) : State :=
  releaseSlot i (modJob n (fun j => { j with list := j.list.filter fun x => x ≠ i }) s)

end Sys2Proof.Machine
end

