-- ==== Sys2Proof/Machine/Store.lean ====
section
/-! DEFINITION. The Recovered Sector Store: lookup, readout, offers, eviction and removal (Chapter 9). -/

namespace Sys2Proof.Machine

/-- An entry is current: its generation is its unit's (R140). -/
def State.entryCurrent (s : State) (e : Entry) : Bool := e.generation = (s.unit e.key.unit).generation

/-- The entry of a key, whatever its generation (R139). -/
def State.entry (s : State) (k : Addr) : Option Entry := s.store.find? fun e => e.key = k

/-- The store's answer to a lookup: the key's entry when it is current (R141). -/
def State.lookup (s : State) (k : Addr) : Option Entry :=
  match s.entry k with
  | none => none
  | some e => if s.entryCurrent e then some e else none

/-- The store holds a REDIRECTED_WRITE entry that meets `p`. -/
def State.hasRedirect (s : State) (p : Addr → Bool) : Bool :=
  s.store.any fun e => e.origin = .redirectedWrite && p e.key

/-- The entry of key `k` changed where it stands. -/
def modEntry (k : Addr) (f : Entry → Entry) (s : State) : State :=
  { s with store := s.store.map fun e => if e.key = k then f e else e }

/-- The entries that meet `p` leave the store; when any leaves, the full condition is cleared (R147). -/
def removeEntries (p : Entry → Bool) (s : State) : State :=
  { s with store := s.store.filter fun e => !p e,
           storeFull := if s.store.any p then false else s.storeFull }

def removeEntry (k : Addr) : State → State := removeEntries fun e => e.key = k

/-- The words of an entry read out in `noise`, data words 0 to 255 and checkword 256, none where parity
fails (R142). -/
def entryWords (e : Entry) (noise : ReadoutNoise) : List (Option Word) :=
  ((e.data ++ [e.check]).zipIdx 0).map fun p => readStored noise p.2 p.1

/-- A readout of an entry (R142): its 256 data words, none when a word fails parity or the sum of the data
words read is not the checkword read. -/
def readEntry (e : Entry) (s : State) : Option (List Word) × State :=
  let words := entryWords e (s.noise.headD [])
  let data := (words.take 256).filterMap id
  (if words.all Option.isSome ∧ (words.getD 256 none) = some (wordSum data) then some data else none,
   { s with noise := s.noise.tail })

inductive StoreAnswer where
  | inserted | full | declined
  deriving DecidableEq, Repr

/-- A new entry, unpinned, its words and their sum with fresh parity (R143). -/
def newEntry (k : Addr) (o : StoreOrigin) (generation : Word) (data : List Word) (pinned : Bool) :
    Entry :=
  { key := k, origin := o, pinned := pinned, generation := generation, hits := 0,
    data := data.map storeWord, check := storeWord (wordSum data), damaged := false }

/-- The entry that a new key displaces from a full store (R146). -/
def State.evictionChoice (s : State) : Option Entry :=
  match s.store.find? fun e => e.origin ≠ .redirectedWrite && !s.entryCurrent e with
  | some e => some e
  | none => s.store.find? fun e => e.origin ≠ .redirectedWrite && !e.pinned

/-- An entry placed at the newest end; the offer is answered INSERTED and the full condition cleared
(R143, R147). -/
def insertEntry (e : Entry) (s : State) : State :=
  { s with store := s.store ++ [e], storeFull := false }

/-- The store's answer to an offer (R143 to R146). -/
def offer (k : Addr) (o : StoreOrigin) (data : List Word) (s : State) : StoreAnswer × State :=
  let fresh := newEntry k o (s.unit k.unit).generation data
  match s.entry k with
  | some old =>
    if o ≠ .redirectedWrite ∧ old.origin = .redirectedWrite then (.declined, s)
    else (.inserted, insertEntry (fresh old.pinned) (removeEntry k s))
  | none =>
    if s.store.length < Config.storeCapacity then (.inserted, insertEntry (fresh false) s)
    else match s.evictionChoice with
      | some e => (.inserted, insertEntry (fresh false) (removeEntry e.key s))
      | none => (.full, { s with storeFull := true })

end Sys2Proof.Machine
end

