-- ==== Sys2Proof/Machine/Relay.lean ====
section
/-! DEFINITION. The Line Relay: answers, holds, claims, the taking of a read, forwarding, and abandonment
(Chapter 2). -/

namespace Sys2Proof.Machine

/-! ### Holds and answers -/

/-- The foreground job becomes background and loses its pin (R81). -/
def releaseForeground (s : State) : State :=
  match s.foregroundJob with
  | none => s
  | some j => modJob j.number (fun j => { j with foreground := false, pin := none }) s

/-- The hold of unit `u` ends; its held revolutions go to the foreground sector job (R33, R71). -/
def endHold (u : UnitNo) (s : State) : State :=
  match (s.unit u).hold with
  | none => s
  | some h =>
    let s := modUnit u (fun e => { e with hold := none }) s
    match s.foregroundJob with
    | some j =>
      if j.kind = .sector then
        modJob j.number (fun j => { j with heldRevs := saturate j.heldRevs h.revs }) s
      else s
    | none => s

/-- A hold of a kind begins on an operation's unit and address (R33). -/
def beginHold (k : HoldKind) (op : ControllerOp) (s : State) : State :=
  modUnit op.unit (fun e => { e with hold := some ⟨k, 0, 0, op.cyl, op.head, op.sector⟩ }) s

/-- A hold takes a kind, its count back at 0 and its held revolutions kept (R30, R37). -/
def turnHold (k : HoldKind) (u : UnitNo) (s : State) : State :=
  modUnit u (fun e => { e with hold := e.hold.map fun h => { h with kind := k, count := 0 } }) s

/-- The current operation is answered: the hold ends, a foreground job becomes background, and the
operation is over. -/
def answerCurrent (a : Answer) (s : State) : State :=
  match s.current with
  | none => s
  | some op =>
    clearOperation (releaseForeground (endHold op.unit (emit (.answer op.unit a) s)))

/-- The composed stream that answers operation `op` with `data` (R17). -/
def composedAnswer (op : ControllerOp) (data : List Word) : Answer :=
  .stream (composedStream op.cyl op.head op.sector data)

/-- The current read is answered with a composed stream of `data` (R17, R36). -/
def answerData (data : List Word) (s : State) : State :=
  match s.current with
  | none => s
  | some op => answerCurrent (composedAnswer op data) s

/-- A capture read back and forwarded word for word; NO DATA when there is none or its readout fails
(R35). -/
def forwardCapture (i : Option SlotId) (s : State) : State :=
  match i with
  | none => answerCurrent .noData s
  | some i =>
    match readWhole i s with
    | (some words, s) => answerCurrent (.stream words) s
    | (none, s) => answerCurrent .noData s

/-- The fallback capture of a sector job: its pinned original, otherwise the oldest of its list (R35). -/
def fallbackCapture (j : Job) : Option SlotId :=
  match j.pin with
  | some i => some i
  | none => j.list.head?

def SectorRow.empty : SectorRow :=
  { list := [], firstFiled := none, firstClean := none, revsCaptured := 0, revsClean := 0,
    capturedNow := false, cleanNow := false, superseded := false, outcome := none, data := none,
    stored := false }

/-- The row of sector `k` in a track job's sector table (R123). -/
def rowOf (j : Job) (k : Nat) : SectorRow := j.rows.getD k SectorRow.empty

/-- The held sector's first CLEAN capture delivered to the controller, when the foreground track job has one
that reads out clean; the job goes on in the background (R36, R134). -/
def deliverFirstClean (s : State) : State :=
  match s.current, s.foregroundJob with
  | some op, some j =>
    if j.kind = .track then
      match (rowOf j op.sector).firstClean with
      | none => s
      | some i =>
        match readData i s with
        | (some data, s) => answerData data s
        | (none, s) => s
    else s
  | _, _ => s

/-! ### The relay's reads -/

/-- The words of a read go up as they arrive (R25, R29, R31). -/
def sentUp (k : ReadKind) (slot : Option SlotId) (m : RelayMode) : Bool :=
  match k with
  | .pass => slot.isNone || m = .cutThrough
  | .owned | .outside | .straight => true
  | .held => false

/-- A fallback: a pass read, or a CUT_THROUGH read of an owned address, that found no slot (R29, R32). -/
def isFallback (k : ReadKind) (slot : Option SlotId) : Bool :=
  slot.isNone && (k = .pass || k = .owned)

/-! ### Taking an operation to the drive (R28, R54) -/

/-- The relay claims the unit for an operation: it is current, an item asks for the cable, and a present
unit gets a WAIT hold (R28, R45). -/
def claimDrive (op : ControllerOp) (s : State) : State :=
  let s := addItem (.operation op.unit) { s with current := some op }
  if (s.unit op.unit).geometry.present then beginHold .wait op s else s

/-- Where the relay would claim the unit: DRIVE FAULT status while its drive reports DRIVE FAULT
(R54). -/
def requestDrive (op : ControllerOp) (s : State) : State :=
  if (s.unit op.unit).faultLine then emit (.answer op.unit (.status .driveFault)) s
  else claimDrive op s

/-- A read that takes a slot, or becomes a fallback, and goes to the drive (R29, R63). -/
def requestPassRead (k : ReadKind) (a : Addr) (s : State) : State :=
  if (s.unit a.unit).faultLine then emit (.answer a.unit (.status .driveFault)) s
  else
    let took := takeRelaySlot s
    claimDrive ⟨a.unit, a.cyl, a.head, a.sector, .read k, took.1, false⟩ took.2

/-- A CHECK_FIRST read of an address a job owns: the job becomes foreground under a hold, and a track job's
CLEAN capture is delivered at once (R32, R80, R134). -/
def promote (j : Job) (a : Addr) (s : State) : State :=
  let op : ControllerOp := ⟨a.unit, a.cyl, a.head, a.sector, .read .held, none, false⟩
  let s := modJob j.number (fun j => { j with foreground := true }) { s with current := some op }
  match j.kind with
  | .sector => beginHold .failure op s
  | .track => deliverFirstClean (beginHold .wait op s)

/-- The job that owns or covers an address (R25 case 7). -/
def State.ownerJob (s : State) (a : Addr) : Option Job :=
  match s.sectorJob a with
  | some j => some j
  | none => s.trackJob a.unit a.cyl a.head

/-- An address lies within a geometry (R25 case 6). -/
def insideGeometry (g : Geometry) (a : Addr) : Bool :=
  a.cyl < g.cylinders && a.head < g.heads && a.sector < g.sectors

/-- Cases 6 to 8 of R25. -/
def readFromDrive (a : Addr) (s : State) : State :=
  let g := (s.unit a.unit).geometry
  if !insideGeometry g a then
    requestDrive ⟨a.unit, a.cyl, a.head, a.sector, .read .outside, none, false⟩ s
  else
    match s.ownerJob a with
    | some j =>
      match g.mode with
      | .checkFirst => promote j a s
      | .cutThrough => requestPassRead .owned a s
    | none => requestPassRead .pass a s

/-- A read is served from its entry: composed stream, STORE_HITS, hit count (R27, R142). -/
def serveEntry (a : Addr) (data : List Word) (s : State) : State :=
  emit (.answer a.unit (.stream (composedStream a.cyl a.head a.sector data)))
    (countStoreHits a.unit (modEntry a (fun e => { e with hits := saturate e.hits 1 }) s))

/-- Cases 5 to 8 of R25: the store first (R27). -/
def readFromStore (a : Addr) (s : State) : State :=
  match s.lookup a with
  | none => readFromDrive a s
  | some e =>
    if e.damaged then emit (.answer a.unit .noData) s
    else
      match readEntry e s with
      | (some data, s) => serveEntry a data s
      | (none, s) =>
        if e.origin = .redirectedWrite then
          emit (.answer a.unit .noData) (modEntry a (fun e => { e with damaged := true }) s)
        else readFromDrive a (removeEntry a s)

/-! ### The maintenance cylinder's reads (R26, R167, R170) -/

/-- The code of the notice a read carries, and the pending notice set after it (R170). -/
def carryNotice (s : State) : Word × Notices :=
  if s.notices.driveFault then (1, { s.notices with driveFault := false })
  else if s.notices.bankRetired then (2, { s.notices with bankRetired := false })
  else if s.notices.recordsOverflow then (3, { s.notices with recordsOverflow := false })
  else if s.notices.jobEnded then (4, { s.notices with jobEnded := false })
  else if s.storeFull then (5, s.notices)
  else (0, s.notices)

/-- A read of sector 0 fills word 3 and sets the read mark (R167). -/
def readResponse (s : State) : State :=
  { s with response := s.response.set 3 (carryNotice s).1, notices := (carryNotice s).2, readMark := true }

/-- A READ SECTOR on the maintenance cylinder (R26). -/
def readMaintenance (u : UnitNo) (head sector : Nat) (s : State) : State :=
  if sector = 0 then
    let s := readResponse s
    emit (.answer u (.stream (composedStream Config.maintenanceCylinder head 0 s.response.items))) s
  else
    emit (.answer u (.stream
      (composedStream Config.maintenanceCylinder head sector (List.replicate 256 0)))) s

/-! ### The taking of a read (R25) -/

/-- The cylinder the unit stands on for the controller: known, and no seek pending (R25 case 3). -/
def onCylinder (e : UnitEntry) : Option Nat := if e.seekPending then none else e.controllerCyl

/-- A READ SECTOR taken on unit `u` (R25). -/
def takeRead (u : UnitNo) (head sector : Nat) (s : State) : State :=
  if (s.unit u).controllerCyl = some Config.maintenanceCylinder then readMaintenance u head sector s
  else if !(s.unit u).ready then emit (.answer u (.status .notReady)) s
  else match onCylinder (s.unit u) with
    | none => emit (.answer u (.status .seekFault)) s
    | some c =>
      if !(s.unit u).geometry.present then
        requestDrive ⟨u, c, head, sector, .read .straight, none, false⟩ s
      else readFromStore ⟨u, c, head, sector⟩ s

/-- The held read is taken up again from R25 (R36, R37, R52). The age of the item that it then has (R45),
which the manual leaves open, is by the model's choice (log 58) that of the taking up again, not of the
controller's first READ SECTOR: the item is the newest, behind margin items added while the read was
held. -/
def retakeRead (s : State) : State :=
  match s.current with
  | none => s
  | some op => takeRead op.unit op.head op.sector (clearOperation s)

/-! ### Abandonment (R19, R42) -/

/-- The words the drive gets for a write of which these words came (R42). -/
def writtenField (data : List Word) (check : Option Word) : List Word :=
  (data ++ List.replicate 256 0).take 256 ++
    [if data.length < 256 then Config.minusZero else check.getD Config.minusZero]

/-- The header words the drive gets for a format cut off after these words: what came, and the words missing
of a track of `sectors` sectors (R42, log 25). -/
def formattedHeaders (sectors : Nat) (headers : List Word) : List Word :=
  headers ++ ((List.range (3 * sectors)).drop headers.length).map fun k =>
    if k % 3 = 2 then Config.minusZero else 0

/-- The words that the controller has sent of a write or format; none for another operation. -/
def sentWords (k : OpKind) : Option (List Word) :=
  match k with
  | .write data check => some (data ++ check.toList)
  | .format headers => some headers
  | _ => none

/-- The words a write or format is made up to when the controller leaves it (R42); none for another
operation. -/
def completedWords (sectors : Nat) (k : OpKind) : Option (List Word) :=
  match k with
  | .write data check => some (writtenField data check)
  | .format headers => some (formattedHeaders sectors headers)
  | _ => none

/-- Words go to the drive of unit `u`, when there are any to go. -/
def sendWords (u : UnitNo) (words : Option (List Word)) (s : State) : State :=
  match words with
  | none => s
  | some l => emit (.driveWords u l) s

/-- The relay's own repositioning of a unit is given up with the operation it was for (R51, log 34): the
motion finishes, and a SEEK FAULT that ends it is not retried. -/
def giveUpRelaySeek (u : UnitNo) : State → State :=
  modUnit u fun e => { e with
    motion := e.motion.map fun m => if m.issuer = .relay then { m with givenUp := true } else m
    recovery := e.recovery.filter fun r => r.issuer ≠ .relay }

/-- The current operation is given up (R19): hold and foreground end, nothing is forwarded; a slot not yet
on the cable goes back; an operation on the cable runs on, abandoned, and a write or format there gets the
words it lacks (R42). The hold's revolutions go to the foreground sector job as at the end of any hold (R33,
R71). For cable initialize, where R71 also leaves every field but the foreground flag and the pin as it
stands, that is the model's choice (log 55). -/
def abandonOperation (s : State) : State :=
  match s.current with
  | none => s
  | some op =>
    let s := releaseForeground (endHold op.unit s)
    let s :=
      if op.issued then
        sendWords op.unit (completedWords (s.unit op.unit).geometry.sectors op.kind)
          { s with grant := s.grant.map fun g => { g with abandoned := true } }
      else match op.slot with
        | some i => releaseSlot i s
        | none => s
    clearOperation (giveUpRelaySeek op.unit s)

end Sys2Proof.Machine
end

