-- ==== Sys2Proof/Machine/Jobs.lean ====
section
/-! DEFINITION. The job controller: how jobs end and are posted, how they are made, the off-track count and
escalation, and the capture list's handovers (Chapter 5, with the track job's endings of Chapter 8). -/

namespace Sys2Proof.Machine

/-! ### Endings (R86) -/

/-- What ends a job. A CLEAN ending carries the capture's received checkword (R161); a fault says whether a
slot was wanted, a seek exhausted its retries, or the drive failed and with what status the controller is
answered (R37). -/
inductive Ending where
  | clean (received : Option Word)
  | recovered (v : Verdict)
  | unrecovered
  | completed
  | cancelled
  | superseded
  | escalated
  | faultedSlot
  | faultedSeek
  | faultedDrive (st : Status)
  deriving DecidableEq, Repr

/-- The result of a recovering verdict (R86, R132). -/
def verdictResult : Verdict → Result
  | .byVote => .byVote
  | .byTrial => .byTrial
  | .byFill => .byFill
  | _ => .unrecovered

def endingResult : Ending → Result
  | .clean _ => .clean
  | .recovered v => verdictResult v
  | .unrecovered => .unrecovered
  | .completed => .completed
  | .cancelled => .cancelled
  | .superseded => .superseded
  | .escalated => .escalated
  | .faultedSlot => .faulted
  | .faultedSeek => .faulted
  | .faultedDrive _ => .faulted

/-- The store origin of a result that carries data (R87, R133). -/
def resultOrigin : Result → Option StoreOrigin
  | .clean => some .cleanMajority
  | .byVote => some .vote
  | .byTrial => some .trial
  | .byFill => some .fill
  | _ => none

/-- Job `n` leaves the arbiter: its own motion finishes for no one, its seek recovery is given up, its
positioning ownership is cleared (R48, R51, R90). -/
def leaveArbiter (n : Nat) (s : State) : State :=
  { s with units := s.units.map fun e => { e with
      motion := e.motion.map fun m => if m.issuer = .job n then { m with givenUp := true } else m
      recovery := e.recovery.filter fun r => r.issuer ≠ .job n
      owner := e.owner.filter fun o => o ≠ n } }

/-- Step 1 of posting: the job's work in flight is given up (R90). -/
def giveUpWork (n : Nat) (s : State) : State :=
  leaveArbiter n { s with
    grant := s.grant.map fun g => if g.holder = .job n then { g with abandoned := true } else g }

/-- The hold ends without an answer, and the foreground job becomes background. -/
def dropHold (s : State) : State :=
  match s.current with
  | none => s
  | some op => releaseForeground (endHold op.unit s)

/-- One INDEX mark let through, the hold ended (R37, R52); the read is to be taken up again. Which mark that
is, one driven at once or the drive's next, R37 and R52 do not say: by the model's choice (log 56) it is
driven within the command that ends the job. -/
def letThrough (s : State) : State :=
  match s.current with
  | none => s
  | some op => dropHold (emit (.index op.unit) s)

/-- A track job's first filed capture forwarded word for word (R36, R137); true when there is none, or its
readout fails, and the read is to be taken up again. -/
def forwardFirstFiled (j : Job) (s : State) : Bool × State :=
  match s.current with
  | none => (false, s)
  | some op =>
    match (rowOf j op.sector).firstFiled with
    | none => (true, s)
    | some i =>
      match readWhole i s with
      | (some words, s) => (false, answerCurrent (.stream words) s)
      | (none, s) => (true, s)

/-- The held controller when a foreground sector job ends (R36, R37); true when its read is to be taken up
again. -/
def settleSector (j : Job) (e : Ending) (s : State) : Bool × State :=
  match e with
  | .clean _ | .recovered _ => (false, answerData (j.data.getD []) s)
  | .unrecovered => (false, forwardCapture (fallbackCapture j) s)
  | .faultedSlot | .faultedSeek =>
    match fallbackCapture j with
    | some i => (false, forwardCapture (some i) s)
    | none => (true, letThrough s)
  | .faultedDrive st => (false, answerCurrent (.status st) s)
  | .completed | .cancelled | .superseded | .escalated => (false, s)

/-- The held controller when a foreground track job ends (R36, R37, R137). -/
def settleTrack (j : Job) (e : Ending) (s : State) : Bool × State :=
  match e with
  | .completed =>
    match s.current with
    | none => (false, s)
    | some op =>
      match (rowOf j op.sector).data with
      | some data => (false, answerData data s)
      | none =>
        match forwardFirstFiled j s with
        | (true, s) => (true, dropHold s)
        | (false, s) => (false, s)
  | .faultedSlot | .faultedSeek =>
    match forwardFirstFiled j s with
    | (true, s) => (true, letThrough s)
    | (false, s) => (false, s)
  | .faultedDrive st => (false, answerCurrent (.status st) s)
  | _ => (false, s)

/-- Step 2 of posting (R87): the held read of a foreground job. -/
def settleHeld (j : Job) (e : Ending) (s : State) : Bool × State :=
  if j.foreground then
    match j.kind with
    | .sector => settleSector j e s
    | .track => settleTrack j e s
  else (false, s)

/-- The store disposition that an answer gives (R87, R143). -/
def dispositionOf : StoreAnswer → Disposition
  | .inserted => .stored
  | .full => .notStoredFull
  | .declined => .notKept

/-- Step 3 for a sector job: a result that carries data is offered (R87). -/
def offerResult (j : Job) (e : Ending) (s : State) : Disposition × State :=
  match resultOrigin (endingResult e) with
  | none => (.notKept, s)
  | some o =>
    let answer := offer ⟨j.unit, j.cyl, j.head, j.sector⟩ o (j.data.getD []) s
    (dispositionOf answer.1, answer.2)

/-- A sector's row as the track job ends (R132, R136, R137). -/
def closeRow (e : Ending) (r : SectorRow) : SectorRow :=
  if r.superseded then { r with outcome := some .superseded, data := none, stored := false }
  else if e = .completed then { r with outcome := some (r.outcome.getD .unrecovered), stored := false }
  else { r with outcome := some .unrecovered, data := none, stored := false }

/-- The origin under which a sector of a COMPLETED track job is offered (R133): recovered, or CLEAN in less
than half of the revolutions that captured it. -/
def rowOrigin (r : SectorRow) : Option StoreOrigin :=
  match r.outcome with
  | some .clean => if 2 * r.revsClean < r.revsCaptured then some .cleanMajority else none
  | some o => resultOrigin o
  | none => none

/-- Step 3 for a COMPLETED track job: its sectors offered from sector `k` up (R133). -/
def offerRows (j : Job) : Nat → List SectorRow → State → List SectorRow × State
  | _, [], s => ([], s)
  | k, r :: l, s =>
    match rowOrigin r with
    | none => (r :: (offerRows j (k + 1) l s).1, (offerRows j (k + 1) l s).2)
    | some o =>
      let answer := offer ⟨j.unit, j.cyl, j.head, k⟩ o (r.data.getD []) s
      let rest := offerRows j (k + 1) l answer.2
      ({ r with stored := answer.1 = .inserted } :: rest.1, rest.2)

/-- The dispute fields of the job's record (R161). -/
def recordReport (j : Job) (e : Ending) : DisputeReport :=
  match e with
  | .clean received =>
    { DisputeReport.empty with expected := some (wordSum (j.data.getD [])), received := received }
  | _ => j.report.getD DisputeReport.empty

/-- A sector job's record (R159). -/
def sectorRecord (j : Job) (e : Ending) (d : Disposition) : Record :=
  .sector { gap := false, job := j.number, addr := ⟨j.unit, j.cyl, j.head, j.sector⟩,
            origin := some j.origin, result := endingResult e, lastVerdict := j.lastVerdict,
            attempts := j.attemptsMade, merged := j.merged, report := recordReport j e,
            disposition := d, heldRevs := j.heldRevs }

/-- A track job's record (R138, R162). -/
def trackRecord (j : Job) (e : Ending) (rows : List SectorRow) : Record :=
  .track { gap := false, job := j.number, unit := j.unit, cyl := j.cyl, head := j.head,
           origin := j.origin, revsDone := j.revsDone, reseeks := j.reseeks, result := endingResult e,
           sectors := rows.map fun r => (r.outcome.getD .unrecovered, r.stored) }

/-- Step 4 for a sector job (R166). -/
def countSectorEnding (u : UnitNo) (e : Ending) (s : State) : State :=
  match endingResult e with
  | .clean | .byVote | .byTrial | .byFill => countRecovered u 1 s
  | .unrecovered => countUnrecovered u 1 s
  | _ => s

/-- Step 4 for a COMPLETED track job (R166). -/
def countTrackEnding (u : UnitNo) (rows : List SectorRow) (s : State) : State :=
  countUnrecovered u (rows.countP fun r => r.outcome = some .unrecovered)
    (countRecovered u (rows.countP fun r => (rowOrigin r).isSome) s)

/-- Steps 3 to 5 of posting (R87); the record's fields stand as step 2 left them. -/
def postResults (j : Job) (e : Ending) (s : State) : State :=
  match j.kind with
  | .sector =>
    let offered := offerResult j e s
    appendRecord (sectorRecord j e offered.1) (countSectorEnding j.unit e offered.2)
  | .track =>
    let rows := j.rows.map (closeRow e)
    if e = .completed then
      let offered := offerRows j 0 rows s
      appendRecord (trackRecord j e offered.1) (countTrackEnding j.unit offered.1 offered.2)
    else appendRecord (trackRecord j e rows) s

/-- Job `n` ends and is posted, the steps of R87 in order. A read to be taken up again is taken when the
job has left the table (R37). -/
def endJob (n : Nat) (e : Ending) (s : State) : State :=
  match s.job n with
  | none => s
  | some j =>
    let settled := settleHeld j e (giveUpWork n s)
    let posted := noteJobEnded (postResults ((settled.2.job n).getD j) e settled.2)
    let gone := restoreReservations (dropJob n (releaseJobSlots n posted))
    if settled.1 then retakeRead gone else gone

/-- Jobs ended together, posted one after another in ascending order of job number (R87). -/
def endJobs (p : Job → Bool) (e : Ending) (s : State) : State :=
  (s.jobNumbers p).foldl (fun s n => endJob n e s) s

/-! ### Creation (R71 to R76) -/

/-- The number a new job draws: the counter's, or the next up that no job has (R73). -/
def State.drawNumber (s : State) : Nat :=
  (((List.range 255).map fun k => (s.nextJob - 1 + k) % 255 + 1).find? fun n =>
    (s.job n).isNone).getD s.nextJob

/-- A job record at its creation (R71, R123). -/
def freshJob (n : Nat) (k : JobKind) (a : Addr) (o : Origin) (plan : Fin 4) (granted : Nat) : Job :=
  { number := n, kind := k, unit := a.unit, cyl := a.cyl, head := a.head, sector := a.sector,
    origin := o, state := .queued, foreground := false, plan := plan, stepIndex := 1, attempt := 1,
    headerMark := .none, granted := granted, reservation := granted, list := [], pin := none,
    previousSlot := none, attemptsMade := 0, lastVerdict := none, report := none, merged := 0,
    data := none, repositionNeeded := false, heldRevs := 0, filling := [], actionSecond := false,
    actionDone := false, claimChecked := false, readCredit := 0, joined := true, restarted := false,
    finalMerge := false, merges := [], revsRequested := 0, revsDone := 0, revOffTrack := 0,
    trackReseek := false, reseeks := 0, rows := [] }

/-- A job put into the table under the number it draws; the counter goes to the number after it (R73). -/
def enterJob (j : Job) (s : State) : State :=
  { addJob { j with number := s.drawNumber } s with nextJob := s.drawNumber % 255 + 1 }

/-- The reservation of a sector job, with or without a slot handed over (R61); none while a job is shortened
(R70). -/
def State.sectorGrant (s : State) (handed : Bool) : Option Nat :=
  if s.anyShortened then none else grantSize 8 3 1 (s.room [] + if handed then 1 else 0)

/-- The reservation of a track job of `revs` revolutions on a unit (R61); none while a job is shortened, one
that the creation would end among them (R70, log 47). -/
def State.trackGrant (s : State) (u : UnitNo) (revs : Nat) (ended : List Job) : Option Nat :=
  let sectors := (s.unit u).geometry.sectors
  if s.anyShortened then none else grantSize (sectors * revs) (sectors * 2) sectors (s.room ended)

/-- The sector jobs on a track. -/
def State.sectorJobsOn (s : State) (u : UnitNo) (cyl head : Nat) : List Job :=
  s.jobList.filter fun j => j.kind = .sector && j.unit = u && j.cyl = cyl && j.head = head

/-- A sector job created with nothing handed over (R75). -/
def createRequestJob (a : Addr) (granted : Nat) (s : State) : State :=
  enterJob (freshJob 0 .sector a .request (s.unit a.unit).geometry.plan granted) s

/-- A READ_FAILURE sector job, foreground when the controller is to be held, with the failed capture as its
original when there is one (R74). -/
def createFailureJob (a : Addr) (o : CheckOutcome) (hold : Bool) (slot : Option SlotId) (granted : Nat)
    (s : State) : State :=
  let n := s.drawNumber
  let j := freshJob 0 .sector a .readFailure (s.unit a.unit).geometry.plan granted
  let s := enterJob { j with
    foreground := hold, headerMark := if o = .wrongHeader then .due else .none,
    list := slot.toList, pin := if hold then slot else none } s
  match slot with
  | none => s
  | some i => handSlot i n s

/-- A track job created after the sector jobs on its track have ended ESCALATED (R76); none when it is
refused, and then nothing has changed. None is made while a job is shortened, so no restoration at the endings
can take its slots (R70, log 47). The answer is its number and revolutions. -/
def createTrackJob (u : UnitNo) (cyl head : Nat) (o : Origin) (revs : Nat) (s : State) :
    Option (Nat × Nat) × State :=
  let ended := s.sectorJobsOn u cyl head
  if ended.isEmpty && s.emptyEntry.isNone then (none, s)
  else match s.trackGrant u revs ended with
    | none => (none, s)
    | some size =>
      let held := ended.any Job.foreground
      let sectors := (s.unit u).geometry.sectors
      let s := endJobs (fun j => ended.any fun x => x.number = j.number) .escalated s
      let j := freshJob 0 .track ⟨u, cyl, head, 0⟩ o (s.unit u).geometry.plan size
      let n := s.drawNumber
      let s := enterJob { j with
        foreground := held, revsRequested := size / sectors,
        rows := List.replicate sectors SectorRow.empty } s
      (some (n, size / sectors), if held then turnHold .wait u s else s)

/-! ### The off-track count and escalation (R91, R92) -/

/-- The off-track count back at 0 with no track (R91). -/
def clearOffTrack (u : UnitNo) : State → State :=
  modUnit u fun e => { e with offTrack := 0, countedTrack := none }

/-- Escalation tried after a WRONG_HEADER has been counted (R92, R125). A track that has a track job clears
the count only where its threshold is met, so that escalation would have been tried (log 48). -/
def tryEscalation (u : UnitNo) (s : State) : State :=
  let e := s.unit u
  match e.countedTrack with
  | none => s
  | some (cyl, head) =>
    if e.geometry.present ∧ 1 ≤ e.geometry.escalation ∧ e.geometry.escalation ≤ e.offTrack then
      if (s.trackJob u cyl head).isSome then clearOffTrack u s
      else
        match createTrackJob u cyl head .escalation 4 s with
        | (some _, s) => clearOffTrack u s
        | (none, s) => s
    else s

/-- An outcome for a read of track (cyl, head) fed to the unit's off-track count (R91). -/
def feedOffTrack (a : Addr) (o : CheckOutcome) (s : State) : State :=
  match o with
  | .noSync => s
  | .wrongHeader =>
    tryEscalation a.unit (modUnit a.unit (fun e =>
      if e.countedTrack = some (a.cyl, a.head) then { e with offTrack := min 8 (e.offTrack + 1) }
      else { e with offTrack := 1, countedTrack := some (a.cyl, a.head) }) s)
  | _ => clearOffTrack a.unit s

/-- A WRONG_HEADER outcome that reaches the job makes a header reseek due once in a step (R99). -/
def markHeader (n : Nat) (o : CheckOutcome) (s : State) : State :=
  if o = .wrongHeader then
    modJob n (fun j => { j with headerMark := if j.headerMark = .none then .due else j.headerMark }) s
  else s

/-! ### Captures that join (R82, R84, R85) -/

/-- A capture joins the end of a sector job's list with a credit (R82). -/
def joinList (n : Nat) (i : SlotId) (credit : Nat) (s : State) : State :=
  modJob n (fun j => { j with list := j.list ++ [i], joined := true }) (setCredit i credit s)

/-- A CLEAN capture is read out and ends its job; true when its readout fails, and the job goes on
(R85). -/
def endClean (n : Nat) (i : SlotId) (s : State) : Bool × State :=
  let received := (s.slot i).received
  match readData i s with
  | (some data, s) => (false, endJob n (.clean received) (modJob n (fun j => { j with data := some data }) s))
  | (none, s) => (true, s)

/-- The relay's slot handed to job `n`, at the end of its list, as its pinned original when `pin`
(R66, R74, R84). -/
def handOver (n : Nat) (i : SlotId) (pin : Bool) (s : State) : State :=
  modJob n (fun j => { j with
    list := j.list ++ [i], joined := true, pin := if pin then some i else j.pin }) (handSlot i n s)

/-- Room made for an offered capture: the capture R83 would release goes when the claim is 0 and the offer
is CLEAN, or the job is not merging and that capture's credit is below 3 (R84). -/
def makeRoom (n : Nat) (clean : Bool) (s : State) : State :=
  match s.job n with
  | none => s
  | some j =>
    match s.releaseChoice j with
    | none => s
    | some c =>
      if s.claim j = 0 ∧ (clean ∨ (j.state ≠ .merging ∧ (s.slot c).credit.getD 0 < 3)) then
        releaseCapture n c s
      else s

/-- The relay offers its HELD slot to job `n` (R84): taken while the claim allows, otherwise released. A
CLEAN capture that is taken ends the job. -/
def offerCapture (n : Nat) (i : SlotId) (pin : Bool) (s : State) : State :=
  let clean := (s.slot i).outcome = some .clean
  let s := makeRoom n clean s
  match s.job n with
  | none => releaseSlot i s
  | some j =>
    if s.claim j = 0 then releaseSlot i s
    else if clean then (endClean n i (handOver n i pin s)).2
    else handOver n i pin s

/-! ### The relay's failed reads (R74) -/

def setForeground (n : Nat) : State → State := modJob n fun j => { j with foreground := true }

def releaseOption (slot : Option SlotId) (s : State) : State :=
  match slot with
  | none => s
  | some i => releaseSlot i s

/-- The READ_FAILURE request of a failed read: the job of the address is created or found; true when it is
refused (R74). `hold`: the controller is to be held for it. -/
def readFailure (a : Addr) (o : CheckOutcome) (hold : Bool) (slot : Option SlotId) (s : State) :
    Bool × State :=
  let s := feedOffTrack a o s
  match s.sectorJob a with
  | some j =>
    let s := markHeader j.number o s
    let s := if hold then setForeground j.number s else s
    (false, match slot with
      | none => s
      | some i => offerCapture j.number i hold s)
  | none =>
    match s.trackJob a.unit a.cyl a.head with
    | some j =>
      let s := releaseOption slot s
      (false, if hold then setForeground j.number s else s)
    | none =>
      if s.emptyEntry.isNone then (true, s)
      else match s.sectorGrant slot.isSome with
        | none => (true, s)
        | some size => (false, createFailureJob a o hold slot size s)

/-- The record of a failure that could not become a job (R158, R159). -/
def noJobRecord (a : Addr) (heldRevs : Nat) : Record :=
  .sector { gap := false, job := 0, addr := a, origin := some .readFailure, result := .noJob,
            lastVerdict := none, attempts := 0, merged := 0, report := DisputeReport.empty,
            disposition := .notKept, heldRevs := heldRevs }

/-- The controller is held for the foreground job: a FAILURE hold for a sector job, a WAIT hold for a track
job, the count at 0 (R30, R74). The hold of the failed read is still there, and R32 and R33 leave open how it
goes on where it stays a WAIT hold: by the model's choice (log 26) its count goes back to 0 and its held
revolutions run on, as where it becomes a FAILURE hold. -/
def enterHeld (u : UnitNo) (s : State) : State :=
  let s := { s with current := s.current.map fun (op : ControllerOp) =>
    { op with kind := .read .held, slot := none, issued := false } }
  match s.foregroundJob with
  | none => s
  | some j =>
    match j.kind with
    | .sector => turnHold .failure u s
    | .track => deliverFirstClean (turnHold .wait u s)

/-- The held revolutions of the relay's hold on a read: those of the unit's hold while the controller waits
for the read, and 0 once the hold has ended (R29, R31, R159). -/
def State.heldForRead (s : State) (u : UnitNo) (hold : Bool) : Nat :=
  if hold then ((s.unit u).hold.map Hold.revs).getD 0 else 0

/-- A failed read of the relay (R29 to R31, R74): its job, or a NO_JOB record and, in CHECK_FIRST, the
drive's own answer. -/
def relayFailure (a : Addr) (o : CheckOutcome) (hold : Bool) (slot : Option SlotId) (s : State) : State :=
  match readFailure a o hold slot (countFailures a.unit s) with
  | (true, s) =>
    let s := appendRecord (noJobRecord a (s.heldForRead a.unit hold)) s
    releaseOption slot (if hold then forwardCapture slot s else s)
  | (false, s) => if hold then enterHeld a.unit s else s

/-- A restart under RECOVER SECTOR (R75): the plan begins again; the list, pin, foreground flag,
reservation, attempts made and held revolutions stay. Of a job that is still positioning, or whose read
waits for the cable, R75 and R96 do not say what becomes of a reposition action begun or completed: by the
model's choice (log 54) step 1's action begins from its first command, and a motion in flight counts for
none of it. R62 has the job keep its slots, and R100 keeps a FILLING slot for the same attempt only: by the
model's choice (log 54) a slot that the job holds FILLING for its unread attempt serves attempt 1 of step 1,
without a new claim check. -/
def restartJob (n : Nat) (s : State) : State :=
  let s := modJob n (fun j => { j with
    stepIndex := 1, attempt := 1, lastVerdict := none, data := none, report := none, merged := 0,
    origin := .request, headerMark := .none, actionSecond := false, actionDone := false,
    joined := true, finalMerge := false,
    restarted := decide (j.state = .capturing) || decide (j.state = .merging) }) s
  { s with units := s.units.map fun e => { e with
      motion := e.motion.map fun m => if m.issuer = .job n then { m with forAction := false } else m
      recovery := e.recovery.map fun r =>
        if r.issuer = .job n then { r with forAction := false } else r } }

end Sys2Proof.Machine
end

