-- ==== Sys2Proof/Machine/Position.lean ====
section
/-! DEFINITION. A job's positioning: the next command of its read, reposition-needed, the way to AWAITING, and
the claim check and slot taking there (Chapters 5, 6 and 8). -/

namespace Sys2Proof.Machine

/-! ### The next positioning command (R95 to R98, R126, R127) -/

/-- The reposition action still due for the job's read (R96, R126). An attempt makes one action at most:
where the header mark becomes DUE when the attempt's own RESEEK or ZERO has ended and its read is not yet
granted, R99 does not say whether it reseeks again, and by the model's choice (log 59) it does not, and the
mark stays DUE for the step's next attempt. -/
def State.actionOf (s : State) (j : Job) : Reposition :=
  let own := (s.stepOf j).reposition
  if j.actionDone then .none
  else match j.kind with
    | .track => if j.trackReseek then .zero else own
    | .sector =>
      let base := if j.attempt = 1 ∨ j.repositionNeeded then own else .none
      if j.headerMark = .due ∧ base = .none then .reseek else base

/-- The first or second command of a RESEEK or ZERO at cylinder `c` of `cylinders` (R97). R97 does not say
what a RESEEK begins with where `c` is at or above `cylinders`, which a LOAD GEOMETRY can bring about: by
the model's choice (log 57) it is SEEK c - 1 as at the last cylinder, and RETURN TO ZERO on a unit of one
cylinder. -/
def actionCommand (a : Reposition) (second : Bool) (c cylinders : Nat) : SeekCmd :=
  if second then .to c
  else match a with
    | .reseek =>
      if cylinders ≤ 1 then .zero else if c + 1 < cylinders then .to (c + 1) else .to (c - 1)
    | _ => .zero

/-- A positioning command of a job; a seek says whether it belongs to the reposition action and whether it
is a retry's. -/
inductive Command where
  | seek (cmd : SeekCmd) (forAction retry : Bool)
  | strobe (x : Strobe)
  | offset (x : HeadOffset)
  deriving DecidableEq, Repr

/-- The command a seek's recovery has due (R51). -/
def retryCommand (r : Recovery) : Option Command :=
  match r.phase with
  | .homeDue => some (.seek .zero r.forAction true)
  | .seekDue => some (.seek (.to r.target) r.forAction true)
  | _ => none

/-- The job's next positioning command when no retry is due (R95). -/
def State.plainCommand (s : State) (j : Job) : Option Command :=
  let e := s.unit j.unit
  let step := s.stepOf j
  if s.actionOf j ≠ .none then
    some (.seek (actionCommand (s.actionOf j) j.actionSecond j.cyl e.geometry.cylinders) true false)
  else if e.driveCyl ≠ some j.cyl then some (.seek (.to j.cyl) false false)
  else if e.strobe ≠ some step.strobe then some (.strobe step.strobe)
  else if e.offset ≠ some step.offset then some (.offset step.offset)
  else none

/-- The job's next positioning command (R95); none when its read is positioned. -/
def State.nextCommand (s : State) (j : Job) : Option Command :=
  match (s.unit j.unit).recovery with
  | some r => if r.issuer = .job j.number then retryCommand r else s.plainCommand j
  | none => s.plainCommand j

/-- The job waits for the SEEK END of its own motion. -/
def State.ownMotion (s : State) (j : Job) : Bool :=
  match (s.unit j.unit).motion with
  | some m => m.issuer = .job j.number && !m.givenUp
  | none => false

/-! ### Reposition-needed (R78) -/

/-- The job is back in QUEUED, its reposition action to be made from its first command; `flag` gives it
reposition-needed. A slot it has taken stays FILLING (R64, R78). -/
def sendBack (n : Nat) (flag : Bool) (s : State) : State :=
  leaveArbiter n (modJob n (fun j => { j with
    state := .queued, claimChecked := false, actionSecond := false,
    actionDone := j.actionDone && !flag, repositionNeeded := j.repositionNeeded || flag }) s)

/-- The job is given reposition-needed (R78). -/
def giveReposition (n : Nat) (s : State) : State :=
  match s.job n with
  | none => s
  | some j =>
    match j.state with
    | .queued => s
    | .positioning | .awaiting => sendBack n true s
    | .capturing | .merging => modJob n (fun j => { j with repositionNeeded := true }) s

/-! ### AWAITING (R83, R100, R128) -/

/-- The slots a job's read needs: one, or one for each sector of its track (R64). -/
def slotsNeeded (j : Job) : Nat :=
  match j.kind with
  | .sector => 1
  | .track => j.rows.length

/-- The claim check a sector job makes once when it reaches AWAITING (R83). -/
def checkClaim (n : Nat) (s : State) : State :=
  match s.job n with
  | none => s
  | some j =>
    if j.claimChecked then s
    else
      let s := modJob n (fun j => { j with claimChecked := true }) s
      if s.claim j = 0 then
        match s.releaseChoice j with
        | some i => releaseCapture n i s
        | none => s
      else s

/-- The slots taken when the claim covers them (R64). -/
def takeIfClaimed (n : Nat) (s : State) : State :=
  match s.job n with
  | none => s
  | some j => if slotsNeeded j ≤ s.claim j then takeJobSlots n (slotsNeeded j) s else s

/-- A job in AWAITING takes the slots its read needs, unless it holds them; with both banks retired it ends
FAULTED (R70, R83, R100, R128). -/
def prepareRead (n : Nat) (s : State) : State :=
  match s.job n with
  | none => s
  | some j =>
    if slotsNeeded j ≤ j.filling.length then s
    else if s.allRetired then endJob n .faultedSlot s
    else match j.kind with
      | .sector => takeIfClaimed n (checkClaim n s)
      | .track => takeIfClaimed n s

/-- The read is positioned: AWAITING, reposition-needed cleared (R77, R78). -/
def enterAwaiting (n : Nat) (s : State) : State :=
  prepareRead n (modJob n (fun j => { j with
    state := .awaiting, repositionNeeded := false, claimChecked := false }) s)

/-- A job finds where it stands (R77, R95, R99, R100; logs 9, 10, 29): from QUEUED or POSITIONING to
AWAITING when its read is positioned; from AWAITING back to QUEUED when the drive is not at its cylinder,
the unit table no longer shows its settings, or a header reseek has become due that the attempt is
still to make (log 59). -/
def settleJob (n : Nat) (s : State) : State :=
  match s.job n with
  | none => s
  | some j =>
    match j.state with
    | .queued | .positioning =>
      if s.ownMotion j || (s.nextCommand j).isSome then s else enterAwaiting n s
    | .awaiting =>
      if (s.unit j.unit).driveCyl ≠ some j.cyl then giveReposition n s
      else if (s.nextCommand j).isSome then sendBack n false s
      else prepareRead n s
    | .capturing | .merging => s

/-- Every job finds where it stands, in ascending order of job number (log 11). -/
def settleJobs (s : State) : State := (s.jobNumbers fun _ => true).foldl (fun s n => settleJob n s) s

/-- An event after which the jobs find where they stand only when its readouts have retired a bank (R70). -/
def settleIfRetired (f : State → State) (s : State) : State :=
  let t := f s
  if t.banks = s.banks then t else settleJobs t

/-- The current controller operation, if any, is abandoned before a new operation is taken (R19). -/
def abandonCurrent (s : State) : State :=
  match s.current with
  | none => s
  | some _ => settleJobs (abandonOperation s)

/-! ### Eligible requests (R45, R46) -/

inductive Waiting where
  | none | cable | ready | slot
  deriving DecidableEq, Repr

/-- The relay holds a claim on unit `u`: an operation for its drive has been taken and is not yet on the
cable (R28). -/
def State.relayClaim (s : State) (u : UnitNo) : Bool :=
  match s.current with
  | none => false
  | some op => op.unit = u && !op.issued &&
    match op.kind with
    | .read k => k ≠ .held
    | .write _ _ => true
    | .format _ => true
    | .receiving _ => false

/-- The job has its request presented: a positioning command, or its read. -/
def requesting (j : Job) : Bool := j.state = .queued || j.state = .positioning || j.state = .awaiting

/-- Which condition of R46 fails for the job's request; none while it is eligible, and none while the job
waits for its own motion or has no request (R77). A job in AWAITING without the slots of its read has reason
SLOT whatever else fails (R77); of the other conditions the first of R46 gives the reason (log 49). -/
def State.waiting (s : State) (j : Job) : Waiting :=
  let e := s.unit j.unit
  if !requesting j || s.ownMotion j then .none
  else if j.state = .awaiting && j.filling.length < slotsNeeded j then .slot
  else if !e.ready || e.faultLine then .ready
  else if e.motion.isSome || s.relayClaim j.unit then .cable
  else if (match e.owner with
      | some n => n ≠ j.number && !j.foreground
      | none => false) then .cable
  else if s.grant.isSome then .cable
  else .none

/-- The job's request may be granted now (R46). -/
def State.eligible (s : State) (j : Job) : Bool :=
  requesting j && !s.ownMotion j && s.waiting j = .none &&
    match j.state with
    | .awaiting => (s.unit j.unit).driveCyl = some j.cyl
    | _ => (s.nextCommand j).isSome

/-- A relay item may be granted: its unit's motion is NONE (R45), and its command is still to be issued. -/
def State.itemEligible (s : State) (i : Item) : Bool :=
  (s.unit i.unit).motion.isNone &&
    match i with
    | .margin _ => true
    | .seek u _ issued => !issued || (match (s.unit u).recovery with
        | some r => r.issuer = .controller
        | none => false)
    | .operation u => s.relayClaim u

end Sys2Proof.Machine
end

