-- ==== Sys2Proof/Machine/Grant.lean ====
section
/-! DEFINITION. The Cable Arbiter's grant: commands sent on the drive face, the relay's items, the issue of
the controller's operation, and the jobs' requests (Chapter 3, with the supersession of Chapters 2, 5, 8 and
9). -/

namespace Sys2Proof.Machine

/-! ### Commands on the drive face (R22) -/

/-- A retry's command has been granted: its first one counts (R51). -/
def Recovery.advance (r : Recovery) : Recovery :=
  match r.phase with
  | .homeDue => { r with used := r.used + 1, phase := .homeMoving }
  | .seekDue => { r with phase := .seekMoving }
  | _ => r

def seekTarget : SeekCmd → Nat
  | .to c => c
  | .zero => 0

/-- A seek is issued to unit `u` (R22, R50): the drive cylinder becomes UNKNOWN and the motion is recorded.
A seek that is no retry replaces any recovery record (R51). -/
def startSeek (i : Issuer) (u : UnitNo) (cmd : SeekCmd) (forAction retry : Bool) (s : State) : State :=
  headsMove u (modUnit u (fun e => { e with
    driveCyl := none
    motion := some { issuer := i, target := seekTarget cmd, home := cmd = .zero, givenUp := false,
                     silent := false, forAction := forAction }
    recovery := if retry then e.recovery.map Recovery.advance else none })
    (emit (.driveSeek u cmd) (selectDrive u s)))

/-- SHIFT STROBE is issued to unit `u` (R22). -/
def sendStrobe (u : UnitNo) (x : Strobe) (s : State) : State :=
  dropSettledMargins (modUnit u (fun e => { e with strobe := some x })
    (emit (.driveStrobe u x) (selectDrive u s)))

/-- OFFSET HEADS is issued to unit `u` (R22). -/
def sendOffset (u : UnitNo) (x : HeadOffset) (s : State) : State :=
  dropSettledMargins (modUnit u (fun e => { e with offset := some x })
    (emit (.driveOffset u x) (selectDrive u s)))

/-! ### The relay's grants -/

/-- The relay is granted a command on a unit that a job owns: the owner is cleared and told (R48). -/
def takeFromOwner (u : UnitNo) (s : State) : State :=
  match (s.unit u).owner with
  | none => s
  | some n => modUnit u (fun e => { e with owner := none }) (giveReposition n s)

/-- The relay has moved unit `u`: its jobs that have begun positioning are given reposition-needed
(R22, R78). -/
def tellMoved (u : UnitNo) (s : State) : State :=
  (s.jobNumbers fun j => j.unit = u).foldl (fun s n => giveReposition n s) s

/-- The relay's own seek, for the controller or for its repositioning (R22, R48). -/
def relaySeek (i : Issuer) (u : UnitNo) (cmd : SeekCmd) (retry : Bool) (s : State) : State :=
  startSeek i u cmd false retry (tellMoved u (takeFromOwner u s))

/-- SHIFT STROBE NORMAL, then OFFSET HEADS CENTRE (R18, R28); none when both are set. -/
def relayMargin (u : UnitNo) (s : State) : Option State :=
  if (s.unit u).strobe ≠ some .normal then some (sendStrobe u .normal (takeFromOwner u s))
  else if (s.unit u).offset ≠ some .centre then some (sendOffset u .centre (takeFromOwner u s))
  else none

/-- The retry's command when the unit's recovery is the issuer's (R51). -/
def State.retrySeek (s : State) (i : Issuer) (u : UnitNo) : Option SeekCmd :=
  match (s.unit u).recovery with
  | some r =>
    if r.issuer = i then
      match retryCommand r with
      | some (.seek cmd _ _) => some cmd
      | _ => none
    else none
  | none => none

/-! ### Supersession (R38, R41, R88, R135, R136, R150, R151) -/

/-- A sector row once the controller has written its sector (R135); in the final stage its outcome is
SUPERSEDED. -/
def supersedeRow (finalStage : Bool) : SectorRow :=
  { SectorRow.empty with
    superseded := true, outcome := if finalStage then some .superseded else none }

/-- Sector `k` of track job `n` is superseded: its captures are released, a merge of it discarded (R135). -/
def supersedeTrackSector (n k : Nat) (s : State) : State :=
  match s.job n with
  | none => s
  | some j =>
    modJob n (fun j => { j with
      rows := j.rows.set k (supersedeRow (j.state = .merging))
      merges := j.merges.filter fun m => m.sector ≠ k }) (releaseSlots (rowOf j k).list s)

/-- A track job ends COMPLETED when every sector is superseded, or when no verdict of its final stage is
outstanding (R132, R135). -/
def endIfSettled (n : Nat) (s : State) : State :=
  match s.job n with
  | none => s
  | some j =>
    if j.rows.all SectorRow.superseded || (j.state = .merging && j.merges.isEmpty) then
      endJob n .completed s
    else s

/-- The issue of a PASS WRITE SECTOR makes the pack's copy the only one (R38, R88, R135, R150). -/
def supersedeSector (a : Addr) (s : State) : State :=
  let s := match s.entry a with
    | some _ => countSuperseding a.unit 1 (removeEntry a s)
    | none => s
  let s := match s.sectorJob a with
    | some j => endJob j.number .superseded s
    | none => s
  match s.trackJob a.unit a.cyl a.head with
  | some j => endIfSettled j.number (supersedeTrackSector j.number a.sector s)
  | none => s

/-- An entry's key lies on a track (R151). -/
def onTrack (u : UnitNo) (cyl head : Nat) (e : Entry) : Bool :=
  e.key.unit = u && e.key.cyl = cyl && e.key.head = head

/-- The issue of a PASS FORMAT TRACK (R41, R88, R136, R151). -/
def supersedeTrack (u : UnitNo) (cyl head : Nat) (s : State) : State :=
  let s := countSuperseding u (s.store.countP (onTrack u cyl head))
    (removeEntries (onTrack u cyl head) s)
  let s := endJobs (fun j => j.kind = .sector && j.unit = u && j.cyl = cyl && j.head = head) .superseded s
  match s.trackJob u cyl head with
  | some j =>
    endJob j.number .completed
      ((List.range j.rows.length).foldl (fun s k => supersedeTrackSector j.number k s) s)
  | none => s

/-! ### The issue of the controller's operation (R28) -/

/-- The grant of a relay operation; the operation is on the cable and its item and claim are gone (R28,
R44). -/
def putOnCable (op : ControllerOp) (k : ReadKind) (c : CableOp) (s : State) : State :=
  { emit (.driveOp op.unit c) s with
    grant := some { holder := .relay k, op := c, unit := op.unit, cyl := op.cyl,
                    slots := op.slot.toList, nextMark := 0, abandoned := false }
    current := some { op with issued := true }
    items := s.items.filter fun i => !i.isOperation }

/-- READ SECTOR is issued: READS, FALLBACKS, and the end of a hold that no longer serves (R25, R29,
R164). -/
def issueRead (op : ControllerOp) (k : ReadKind) (s : State) : State :=
  let s := countReads op.unit (putOnCable op k (.readSector op.head op.sector) s)
  let s := if isFallback k op.slot then countFallbacks op.unit s else s
  if sentUp k op.slot (s.unit op.unit).geometry.mode then endHold op.unit s else s

/-- The controller's own operation is issued to the drive (R28, R38, R41). -/
def issueOperation (op : ControllerOp) (s : State) : State :=
  let s := selectDrive op.unit (takeFromOwner op.unit s)
  match op.kind with
  | .read k => issueRead op k s
  | .write _ _ =>
    supersedeSector ⟨op.unit, op.cyl, op.head, op.sector⟩
      (putOnCable op .pass (.writeSector op.head op.sector) s)
  | .format _ =>
    supersedeTrack op.unit op.cyl op.head (putOnCable op .pass (.formatTrack op.head) s)
  | .receiving _ => s

/-- The first thing that the controller's operation needs (R28); a retry of the relay's repositioning seek
first (R51). -/
def operationStep (op : ControllerOp) (s : State) : State :=
  match s.retrySeek .relay op.unit with
  | some cmd => relaySeek .relay op.unit cmd true s
  | none =>
    if (s.unit op.unit).driveCyl ≠ some op.cyl then relaySeek .relay op.unit (.to op.cyl) false s
    else match relayMargin op.unit s with
      | some s => s
      | none => issueOperation op s

/-- The controller's seek, or its retry's command, is issued; its item stays until the seek is over (R23,
R45, R51). -/
def seekStep (u : UnitNo) (cmd : SeekCmd) (s : State) : State :=
  let s := { s with items := s.items.map fun i => if i.isSeekOf u then .seek u cmd true else i }
  match s.retrySeek .controller u with
  | some c => relaySeek .controller u c true s
  | none => relaySeek .controller u cmd false s

/-- A relay item is granted (R45, R47). -/
def grantItem (i : Item) (s : State) : State :=
  match i with
  | .margin u =>
    match relayMargin u s with
    | some s => s
    | none => dropSettledMargins s
  | .seek u cmd _ => seekStep u cmd s
  | .operation _ =>
    match s.current with
    | some op => operationStep op s
    | none => s

/-! ### The jobs' grants -/

/-- The job becomes its unit's positioning owner; a former owner is told (R48). -/
def becomeOwner (n : Nat) (u : UnitNo) (s : State) : State :=
  let s := match (s.unit u).owner with
    | some m => if m = n then s else giveReposition m s
    | none => s
  modUnit u (fun e => { e with owner := some n }) s

/-- A job's positioning command is granted (R48, R77, R95). -/
def grantCommand (j : Job) (c : Command) (s : State) : State :=
  let s := modJob j.number (fun j => { j with state := .positioning }) (becomeOwner j.number j.unit s)
  match c with
  | .seek cmd forAction retry => startSeek (.job j.number) j.unit cmd forAction retry s
  | .strobe x => sendStrobe j.unit x s
  | .offset x => sendOffset j.unit x s

/-- The cable operation of a job's read. -/
def readOp (j : Job) : CableOp :=
  match j.kind with
  | .sector => .readSector j.head j.sector
  | .track => .readTrack j.head

/-- A job's read is granted (R94, R100, R128). -/
def grantRead (j : Job) (s : State) : State :=
  let s := match (s.unit j.unit).owner with
    | some m => if m = j.number then s else becomeOwner j.number j.unit s
    | none => s
  let s := emit (.driveOp j.unit (readOp j)) (selectDrive j.unit s)
  let g : Grant := { holder := .job j.number, op := readOp j, unit := j.unit, cyl := j.cyl,
                     slots := j.filling, nextMark := 0, abandoned := false }
  let credit := (s.stepOf j).credit
  modJob j.number (fun j =>
    let j := { j with state := .capturing, readCredit := credit, filling := [] }
    match j.kind with
    | .sector => { j with attemptsMade := saturate j.attemptsMade 1 }
    | .track => { j with
        revOffTrack := 0
        reseeks := if j.trackReseek then j.reseeks + 1 else j.reseeks
        trackReseek := false
        rows := j.rows.map fun r => { r with capturedNow := false, cleanNow := false } })
    { s with grant := some g }

/-- A job's request is granted (R47). -/
def grantJob (j : Job) (s : State) : State :=
  match j.state with
  | .awaiting => grantRead j s
  | _ =>
    match s.nextCommand j with
    | some c => grantCommand j c s
    | none => s

/-- The arbiter's decision (R47): with the cable free, the relay's oldest eligible item, otherwise the first
eligible job in the grant order; nothing when there is neither. The jobs then find where they stand. -/
def decideGrant (s : State) : State :=
  if s.grant.isSome then s
  else match s.items.find? s.itemEligible with
    | some i => settleJobs (grantItem i s)
    | none =>
      match s.grantOrder.find? s.eligible with
      | some j => settleJobs (grantJob j s)
      | none => s

end Sys2Proof.Machine
end

