-- ==== Sys2Proof/Machine/Operands.lean ====
section
/-! DEFINITION. Argument words read and result words written: the treatments of R169 and the codes, records
and layouts of section 11.4. -/

namespace Sys2Proof.Machine

/-! ### Arguments (R169) -/

/-- A ranged field. -/
def ranged (lo hi : Nat) (w : Word) : Option Nat :=
  if lo ≤ w.toNat ∧ w.toNat ≤ hi then some w.toNat else none

/-- A clamped field. -/
def clamped (lo hi : Nat) (w : Word) : Nat := max lo (min hi w.toNat)

/-- A unit number, or a plan number: 0 to 3. -/
def quarterField (w : Word) : Option (Fin 4) := if h : w.toNat < 4 then some ⟨w.toNat, h⟩ else none

/-- A coded field: its value is its code's place in the list. -/
def coded {α : Type} (values : List α) (w : Word) : Option α := values[w.toNat]?

def flagField : Word → Option Bool := coded [false, true]
def modeField : Word → Option RelayMode := coded [.checkFirst, .cutThrough]
def policyField : Word → Option Policy := coded [.pass, .block, .redirect]
def strobeField : Word → Option Strobe := coded [.normal, .early, .late]
def offsetField : Word → Option HeadOffset := coded [.centre, .forward, .reverse]
def repositionField : Word → Option Reposition := coded [.none, .reseek, .zero]

/-- The address of PIN, UNPIN and DROP ENTRY (R181). -/
def keyField (unit cyl head sector : Word) : Option Addr := do
  let u ← quarterField unit
  let c ← ranged 0 1022 cyl
  let h ← ranged 0 15 head
  let k ← ranged 0 23 sector
  some ⟨u, c, h, k⟩

/-- The words of a step whose words were not written. -/
def StepWords.zero : StepWords := ⟨0, 0, 0, 0, 0⟩

/-- A step of LOAD PLAN (R173). -/
def stepField (w : StepWords) : Option PlanStep := do
  let strobe ← strobeField w.strobe
  let offset ← offsetField w.offset
  let reposition ← repositionField w.reposition
  some ⟨strobe, offset, reposition, clamped 1 4 w.attempts, clamped 1 7 w.credit⟩

/-- The first `n` steps of LOAD PLAN, none when one of them has a bad field (R173). -/
def stepFields (steps : List StepWords) : Nat → Option (List PlanStep)
  | 0 => some []
  | n + 1 => do
    let l ← stepFields steps n
    let x ← stepField (steps.getD n StepWords.zero)
    some (l ++ [x])

/-- The step words of LOAD PLAN's arguments from word 5 on (11.4). -/
def stepsOf (args : List Word) : List StepWords :=
  (List.range 12).map fun k =>
    ⟨args.getD (2 + 5 * k) 0, args.getD (3 + 5 * k) 0, args.getD (4 + 5 * k) 0, args.getD (5 + 5 * k) 0,
     args.getD (6 + 5 * k) 0⟩

/-- The argument words of a step. -/
def stepArguments (w : StepWords) : List Word := [w.strobe, w.offset, w.reposition, w.attempts, w.credit]

/-! ### Results (11.4) -/

def word (n : Nat) : Word := BitVec.ofNat 12 n
def bit (b : Bool) : Nat := if b then 1 else 0

/-- A word of fields, each a value and the place of its lowest bit. -/
def packWord (fields : List (Nat × Nat)) : Word := word (fields.foldl (fun a x => a + x.1 * 2 ^ x.2) 0)

/-- A packed address word (11.4). A head above 15, which only the key of a redirected write outside the
geometry can have, runs over into the unit's bits (log 50). -/
def packedAddress (u : UnitNo) (head sector : Nat) : Word := packWord [(u.val, 9), (head, 5), (sector, 0)]

def modeCode : RelayMode → Nat
  | .checkFirst => 0
  | .cutThrough => 1

def policyCode : Policy → Nat
  | .pass => 0
  | .block => 1
  | .redirect => 2

def kindCode : JobKind → Nat
  | .sector => 1
  | .track => 2

def originCode : Option Origin → Nat
  | none => 0
  | some .readFailure => 1
  | some .request => 2
  | some .escalation => 3

def stateCode : JobState → Nat
  | .queued => 1
  | .positioning => 2
  | .awaiting => 3
  | .capturing => 4
  | .merging => 5

def waitingCode : Waiting → Nat
  | .none => 0
  | .cable => 1
  | .ready => 2
  | .slot => 3

def verdictCode : Option Verdict → Nat
  | none => 0
  | some .byVote => 1
  | some .byTrial => 2
  | some .byFill => 3
  | some .conflict => 4
  | some .ambiguous => 5
  | some .unverified => 6
  | some .unresolved => 7

def resultCode : Result → Nat
  | .clean => 1
  | .byVote => 2
  | .byTrial => 3
  | .byFill => 4
  | .unrecovered => 5
  | .cancelled => 6
  | .superseded => 7
  | .escalated => 8
  | .faulted => 9
  | .noJob => 10
  | .cableCheck => 11
  | .completed => 12

def dispositionCode : Disposition → Nat
  | .notKept => 0
  | .stored => 1
  | .notStoredFull => 2

def storeOriginCode : StoreOrigin → Nat
  | .cleanMajority => 1
  | .vote => 2
  | .trial => 3
  | .fill => 4
  | .redirectedWrite => 5

/-- A SECTOR record's 12 words. -/
def sectorRecordWords (r : SectorRecord) : List Word :=
  [packWord [(bit r.gap, 11), (1, 9), (12, 0)],
   word r.job,
   packedAddress r.addr.unit r.addr.head r.addr.sector,
   word r.addr.cyl,
   packWord [(originCode r.origin, 10), (resultCode r.result, 6), (verdictCode r.lastVerdict, 3),
     (dispositionCode r.disposition, 1)],
   word r.attempts,
   packWord [(r.merged, 8), (r.report.disputed, 0)],
   word r.report.undecided,
   packWord [(bit r.report.first.isSome, 11), (bit r.report.expected.isSome, 10),
     (bit r.report.received.isSome, 9), (r.report.first.getD 0, 0)],
   r.report.expected.getD 0,
   r.report.received.getD 0,
   word r.heldRevs]

/-- A TRACK record's 8 + S words. -/
def trackRecordWords (r : TrackRecord) : List Word :=
  [packWord [(bit r.gap, 11), (2, 9), (8 + r.sectors.length, 0)],
   word r.job,
   packedAddress r.unit r.head 0,
   word r.cyl,
   packWord [(originCode (some r.origin), 10), (resultCode r.result, 6)],
   word r.revsDone,
   word r.reseeks,
   word r.sectors.length] ++
  (r.sectors.zipIdx 0).map fun x => packWord [(bit x.1.2, 11), (resultCode x.1.1, 6), (x.2, 0)]

def recordWords : Record → List Word
  | .sector r => sectorRecordWords r
  | .track r => trackRecordWords r

/-- A directory summary: six words (R180). -/
def entryWordsOf (s : State) (index : Nat) (e : Entry) : List Word :=
  [word index, packedAddress e.key.unit e.key.head e.key.sector, word e.key.cyl,
   packWord [(storeOriginCode e.origin, 9), (bit e.pinned, 2), (bit (!s.entryCurrent e), 1),
     (bit e.damaged, 0)],
   word e.hits, e.generation]

/-- A cylinder as the status report shows it: 7777 when UNKNOWN (R171). -/
def cylinderWord : Option Nat → Word
  | some c => word c
  | none => Config.minusZero

/-- The 22 words of a unit block (R171). The unit through which the request is written shows 1777. -/
def unitBlock (s : State) (u : UnitNo) : List Word :=
  let e := s.unit u
  let g := e.geometry
  let c := e.counters
  [word (bit g.present), word g.cylinders, word g.heads, word g.sectors, word g.plan.val,
   word g.retryLimit, word g.escalation, word (modeCode g.mode), word (policyCode e.policy),
   if u = s.controllerUnit then word Config.maintenanceCylinder else cylinderWord e.controllerCyl,
   cylinderWord e.driveCyl, word (bit e.ready), e.generation, word c.reads, word c.failures,
   word c.recovered, word c.unrecovered, word c.storeHits, word c.writesBlocked,
   word c.writesRedirected, word c.writesSuperseding, word c.fallbacks]

/-- The 10 words of a job summary (R171). -/
def jobSummary (s : State) : Option Job → List Word
  | none => List.replicate 10 0
  | some j =>
    let track := j.kind = .track
    [word j.number,
     packWord [(kindCode j.kind, 10), (originCode (some j.origin), 8), (bit j.foreground, 0)],
     packWord [(bit j.repositionNeeded, 11), (waitingCode (s.waiting j), 4), (stateCode j.state, 0)],
     packedAddress j.unit j.head (if track then 0 else j.sector),
     word j.cyl,
     if track then packWord [(j.revsDone, 4), (j.revsRequested, 0)]
       else packWord [(j.stepIndex, 4), (j.attempt, 0)],
     word (if track then (j.rows.map fun r => r.list.length).sum else j.list.length),
     word j.reservation,
     word (if track then 0 else verdictCode j.lastVerdict),
     word (if track then j.reseeks else j.attemptsMade)]

/-- The status report, result words 5 to 187 (R171). -/
def statusReport (s : State) : List Word :=
  [Config.typeWord, Config.revisionWord] ++
  unitBlock s 0 ++ unitBlock s 1 ++ unitBlock s 2 ++ unitBlock s 3 ++
  [word s.q, word s.t, word s.holdLimit,
   word s.freeCount, word s.totalReserved, word s.retiredCount,
   word (s.banks.get 0).parity, word (s.banks.get 1).parity,
   packWord [(bit (s.bankRetired 0), 0), (bit (s.bankRetired 1), 1)],
   word s.store.length, word (s.store.countP fun e => e.pinned), word (bit s.storeFull),
   word s.records.length] ++
  s.jobs.items.flatMap (jobSummary s)

end Sys2Proof.Machine
end

