-- ==== Sys2Proof/Machine/Maintenance.lean ====
section
/-! DEFINITION. The Maintenance Unit: taking a request, the fifteen requests, and the request commands
(Chapter 11). -/

namespace Sys2Proof.Machine

/-! ### The response (R168) -/

/-- An outcome of a request (11.4). -/
inductive ReqOutcome where
  | done | badMarker | badCheck | unknownRequest | badField | unitBusy | planInUse | policyStep
  | tableFull | noSlots | covered | noSuchJob | noSuchEntry | entryLocked | redirectsPresent
  deriving DecidableEq, Repr

def outcomeCode : ReqOutcome → Word
  | .done => 1
  | .badMarker => 2
  | .badCheck => 3
  | .unknownRequest => 4
  | .badField => 5
  | .unitBusy => 6
  | .planInUse => 7
  | .policyStep => 8
  | .tableFull => 9
  | .noSlots => 10
  | .covered => 11
  | .noSuchJob => 12
  | .noSuchEntry => 13
  | .entryLocked => 14
  | .redirectsPresent => 15

/-- What a request answers: its outcome and its result words from word 5 on. -/
structure Reply where
  outcome : ReqOutcome
  results : List Word
  deriving DecidableEq, Repr

def refuse (o : ReqOutcome) (s : State) : Reply × State := (⟨o, []⟩, s)
def done (results : List Word) (s : State) : Reply × State := (⟨.done, results⟩, s)

/-- The response replaced and the read mark cleared (R168). -/
def replaceResponse (code tag : Word) (r : Reply) (s : State) : State :=
  { s with
    response := Table.ofList 256 0
      ([code, tag, outcomeCode r.outcome, 0, if s.readMark then 0 else 1] ++ r.results)
    readMark := false }

/-! ### Requests on the tables (R171 to R175) -/

def askStatus (s : State) : Reply × State := done (statusReport s) s

/-- The geometry of LOAD GEOMETRY's words; none when a field is bad (R172). -/
def geometryField (present cylinders heads sectors plan retries escalation mode : Word) :
    Option Geometry := do
  let p ← flagField present
  let c ← ranged 1 1000 cylinders
  let h ← ranged 1 16 heads
  let k ← ranged 8 24 sectors
  let n ← quarterField plan
  let r ← ranged 0 3 retries
  let m ← modeField mode
  some ⟨p, c, h, k, n, r, clamped 0 8 escalation, m⟩

/-- The unit has a job in the table, or a seek pending (R172). -/
def State.unitBusy (s : State) (u : UnitNo) : Bool :=
  s.jobList.any (fun j => j.unit = u) || (s.unit u).seekPending

/-- LOAD GEOMETRY (R172). -/
def askGeometry (unit present cylinders heads sectors plan retries escalation mode : Word) (s : State) :
    Reply × State :=
  match quarterField unit, geometryField present cylinders heads sectors plan retries escalation mode with
  | some u, some g =>
    if s.unitBusy u then refuse .unitBusy s
    else done [word g.escalation] (clearOffTrack u (modUnit u (fun e => { e with geometry := g }) s))
  | _, _ => refuse .badField s

/-- LOAD PLAN (R173). -/
def askPlan (plan length : Word) (steps : List StepWords) (s : State) : Reply × State :=
  match quarterField plan, (ranged 1 12 length).bind (stepFields steps) with
  | some n, some l =>
    if s.jobList.any fun j => j.plan = n then refuse .planInUse s
    else done (l.flatMap fun x => [word x.attempts, word x.credit])
      { s with plans := s.plans.set n l }
  | _, _ => refuse .badField s

/-- The test of a policy step (R174); none when the step may be taken. -/
def policyRefusal (s : State) (u : UnitNo) (p : Policy) : Option ReqOutcome :=
  match (s.unit u).policy, p with
  | .block, .pass => if s.hasRedirect (fun k => k.unit = u) then some .redirectsPresent else none
  | .pass, .redirect => some .policyStep
  | .redirect, .pass => some .policyStep
  | _, _ => none

/-- SET POLICY (R174). -/
def askPolicy (unit policy : Word) (s : State) : Reply × State :=
  match quarterField unit, policyField policy with
  | some u, some p =>
    match policyRefusal s u p with
    | some o => refuse o s
    | none => done [word (policyCode p)] (modUnit u (fun e => { e with policy := p }) s)
  | _, _ => refuse .badField s

/-- SET LIMITS (R175). -/
def askLimits (q t h : Word) (s : State) : Reply × State :=
  done [word (clamped 1 56 q), word (clamped 0 4 t), word (clamped 1 64 h)]
    { s with q := clamped 1 56 q, t := clamped 0 4 t, holdLimit := clamped 1 64 h }

/-! ### Requests on jobs (R176 to R178) -/

/-- The address of RECOVER SECTOR: within a present unit's geometry (R176). -/
def State.sectorField (s : State) (unit cyl head sector : Word) : Option Addr :=
  match quarterField unit with
  | none => none
  | some u =>
    let a : Addr := ⟨u, cyl.toNat, head.toNat, sector.toNat⟩
    if (s.unit u).geometry.present && insideGeometry (s.unit u).geometry a then some a else none

/-- The track of RECOVER TRACK: within a present unit's geometry (R124). -/
def State.trackField (s : State) (unit cyl head : Word) : Option (UnitNo × Nat × Nat) :=
  match quarterField unit with
  | none => none
  | some u =>
    let g := (s.unit u).geometry
    if g.present && decide (cyl.toNat < g.cylinders) && decide (head.toNat < g.heads) then
      some (u, cyl.toNat, head.toNat)
    else none

/-- RECOVER SECTOR (R176). -/
def askSector (unit cyl head sector : Word) (s : State) : Reply × State :=
  match s.sectorField unit cyl head sector with
  | none => refuse .badField s
  | some a =>
    if (s.trackJob a.unit a.cyl a.head).isSome then refuse .covered s
    else match s.sectorJob a with
      | some j => done [word j.number, 1] (settleJobs (restartJob j.number s))
      | none =>
        if s.emptyEntry.isNone then refuse .tableFull s
        else match s.sectorGrant false with
          | none => refuse .noSlots s
          | some size => done [word s.drawNumber, 0] (settleJobs (createRequestJob a size s))

/-- RECOVER TRACK (R124, R177). -/
def askTrack (unit cyl head revolutions : Word) (s : State) : Reply × State :=
  match s.trackField unit cyl head with
  | none => refuse .badField s
  | some (u, c, h) =>
    let revs := clamped 2 8 revolutions
    if (s.trackJob u c h).isSome then refuse .covered s
    else if (s.sectorJobsOn u c h).isEmpty && s.emptyEntry.isNone then refuse .tableFull s
    else match createTrackJob u c h .request revs s with
      | (none, _) => refuse .noSlots s
      | (some made, s) => done [word made.1, word revs, word made.2] (settleJobs s)

/-- CANCEL JOB (R89, R178). -/
def askCancel (job : Word) (s : State) : Reply × State :=
  match ranged 1 255 job with
  | none => refuse .badField s
  | some n =>
    match s.job n with
    | none => refuse .noSuchJob s
    | some _ => done [] (settleJobs (endJob n .cancelled s))

/-! ### Requests on records and the store (R179 to R183) -/

/-- The oldest records, at most `count` and together at most `room` words: their words, how many, and what is
left (R179). -/
def pullRecords : Nat → Nat → List Record → List Word × Nat × List Record
  | _, _, [] => ([], 0, [])
  | 0, _, l => ([], 0, l)
  | n + 1, room, r :: l =>
    let w := recordWords r
    if w.length ≤ room then
      let rest := pullRecords n (room - w.length) l
      (w ++ rest.1, rest.2.1 + 1, rest.2.2)
    else ([], 0, r :: l)

/-- TAKE RECORDS (R157, R179). -/
def askRecords (count : Word) (s : State) : Reply × State :=
  let taken := pullRecords count.toNat Config.recordRoom s.records
  done ([word taken.2.1, word taken.2.2.length] ++ taken.1) { s with records := taken.2.2 }

/-- STORE DIRECTORY (R180). -/
def askDirectory (start : Word) (s : State) : Reply × State :=
  match ranged 0 63 start with
  | none => refuse .badField s
  | some k =>
    let shown := ((s.store.zipIdx 0).drop k).take Config.directoryRoom
    done ([word shown.length, word s.store.length] ++ shown.flatMap fun x => entryWordsOf s x.2 x.1) s

/-- PIN ENTRY and UNPIN ENTRY (R148, R181). -/
def askPin (pinned : Bool) (unit cyl head sector : Word) (s : State) : Reply × State :=
  match keyField unit cyl head sector with
  | none => refuse .badField s
  | some k =>
    match s.entry k with
    | none => refuse .noSuchEntry s
    | some _ => done [] (modEntry k (fun e => { e with pinned := pinned }) s)

/-- DROP ENTRY (R149, R181). -/
def askDrop (unit cyl head sector : Word) (s : State) : Reply × State :=
  match keyField unit cyl head sector with
  | none => refuse .badField s
  | some k =>
    match s.entry k with
    | none => refuse .noSuchEntry s
    | some e =>
      if e.origin = .redirectedWrite ∧ (s.unit k.unit).policy = .redirect then refuse .entryLocked s
      else done [] (removeEntry k s)

/-- A stale entry of unit `u` (R140). -/
def State.staleOf (s : State) (u : UnitNo) (e : Entry) : Bool := e.key.unit = u && !s.entryCurrent e

/-- The stale entries of unit `u` brought to its generation (R153). -/
def adoptUnit (u : UnitNo) (s : State) : State :=
  { s with store := s.store.map fun e =>
      if s.staleOf u e then { e with generation := (s.unit u).generation } else e }

/-- ADOPT ENTRIES (R153, R182). -/
def askAdopt (unit : Word) (s : State) : Reply × State :=
  match quarterField unit with
  | none => refuse .badField s
  | some u => done [word (s.store.countP (s.staleOf u))] (adoptUnit u s)

def clearJobs (s : State) : State :=
  let s := endJobs (fun _ => true) .cancelled s
  { s with units := s.units.map fun e => { e with offTrack := 0, countedTrack := none } }

def clearRecords (s : State) : State := { s with records := [], gapPending := false }

/-- An entry that CLEAR removes (R153). -/
def clearable (e : Entry) : Bool := !e.pinned && e.origin ≠ .redirectedWrite

def clearStore : State → State := removeEntries clearable

def clearCounters (s : State) : State :=
  { s with units := s.units.map fun e => { e with counters := Counters.zero } }

/-- The result words of CLEAR. -/
def clearResults (jobs records entries : Nat) : List Word := [word jobs, word records, word entries]

/-- CLEAR (R183). -/
def askClear (scope : Word) (s : State) : Reply × State :=
  let jobs := s.jobList.length
  let entries := s.store.countP clearable
  match scope.toNat with
  | 1 => done (clearResults jobs 0 0) (clearJobs s)
  | 2 => done (clearResults 0 s.records.length 0) (clearRecords s)
  | 3 => done (clearResults 0 0 entries) (clearStore s)
  | 4 => done (clearResults 0 0 0) (clearCounters s)
  | 5 => done (clearResults jobs (clearJobs s).records.length entries)
      (clearCounters (clearStore (clearRecords (clearJobs s))))
  | _ => refuse .badField s

/-! ### Taking a request (R168) -/

/-- The request of a code carried out or refused; `args` are the words from word 3 on. -/
def carryOut (code : Word) (args : List Word) (s : State) : Reply × State :=
  let a := fun k => args.getD k 0
  match code.toNat with
  | 1 => askStatus s
  | 2 => askGeometry (a 0) (a 1) (a 2) (a 3) (a 4) (a 5) (a 6) (a 7) (a 8) s
  | 3 => askPlan (a 0) (a 1) (stepsOf args) s
  | 4 => askPolicy (a 0) (a 1) s
  | 5 => askLimits (a 0) (a 1) (a 2) s
  | 6 => askSector (a 0) (a 1) (a 2) (a 3) s
  | 7 => askTrack (a 0) (a 1) (a 2) (a 3) s
  | 8 => askCancel (a 0) s
  | 9 => askRecords (a 0) s
  | 10 => askDirectory (a 0) s
  | 11 => askPin true (a 0) (a 1) (a 2) (a 3) s
  | 12 => askPin false (a 0) (a 1) (a 2) (a 3) s
  | 13 => askDrop (a 0) (a 1) (a 2) (a 3) s
  | 14 => askAdopt (a 0) s
  | 15 => askClear (a 0) s
  | _ => refuse .unknownRequest s

/-- The marker of a request code: 7777 less the code (R168). -/
def markerOf (code : Word) : Word := Config.minusZero - code

/-- The tests of R168 in order, on a maintenance write's data words and checkword. -/
def judgeRequest (data : List Word) (check : Word) (s : State) : Reply × State :=
  if !writeMatches data check then refuse .badCheck s
  else if data.getD 1 0 ≠ markerOf (data.getD 0 0) then refuse .badMarker s
  else carryOut (data.getD 0 0) (data.drop 3) s

/-- A maintenance write is taken, the response replaced, and only then the write answered (R26, R168). -/
def takeRequest (u : UnitNo) (data : List Word) (check : Word) (s : State) : State :=
  let judged := judgeRequest data check s
  emit (.answer u .writeDone)
    (replaceResponse (data.getD 0 0) (data.getD 2 0) judged.1 judged.2)

/-- A request written whole on the maintenance cylinder of the controller unit (log 16). -/
def requestWrite (code tag : Word) (f : State → Reply × State) (s : State) : State :=
  let a := abandonCurrent s
  emit (.answer a.controllerUnit .writeDone) (replaceResponse code tag (f a).1 (f a).2)

/-! ### The commands -/

/-- REPORT_STATUS (R171). -/
def execReportStatus (tag : Word) (s : State) : Host.Outcome State Fault Refusal :=
  .next (whenOpen [] (requestWrite 1 tag askStatus) s)

/-- LOAD_GEOMETRY (R172). -/
def execLoadGeometry (tag unit present cylinders heads sectors plan retries escalation mode : Word)
    (s : State) : Host.Outcome State Fault Refusal :=
  .next (whenOpen [] (requestWrite 2 tag
    (askGeometry unit present cylinders heads sectors plan retries escalation mode)) s)

/-- LOAD_PLAN (R173). -/
def execLoadPlan (tag plan length : Word) (steps : List StepWords) (s : State) :
    Host.Outcome State Fault Refusal :=
  .next (whenOpen [] (requestWrite 3 tag (askPlan plan length steps)) s)

/-- SET_POLICY (R174). -/
def execSetPolicy (tag unit policy : Word) (s : State) : Host.Outcome State Fault Refusal :=
  .next (whenOpen [] (requestWrite 4 tag (askPolicy unit policy)) s)

/-- SET_LIMITS (R175). -/
def execSetLimits (tag q t h : Word) (s : State) : Host.Outcome State Fault Refusal :=
  .next (whenOpen [] (requestWrite 5 tag (askLimits q t h)) s)

/-- RECOVER_SECTOR (R176). -/
def execRecoverSector (tag unit cyl head sector : Word) (s : State) : Host.Outcome State Fault Refusal :=
  .next (whenOpen [] (requestWrite 6 tag (askSector unit cyl head sector)) s)

/-- RECOVER_TRACK (R177). -/
def execRecoverTrack (tag unit cyl head revolutions : Word) (s : State) :
    Host.Outcome State Fault Refusal :=
  .next (whenOpen [] (requestWrite 7 tag (askTrack unit cyl head revolutions)) s)

/-- CANCEL_JOB (R178). -/
def execCancelJob (tag job : Word) (s : State) : Host.Outcome State Fault Refusal :=
  .next (whenOpen [] (requestWrite 8 tag (askCancel job)) s)

/-- TAKE_RECORDS (R179). -/
def execTakeRecords (tag count : Word) (s : State) : Host.Outcome State Fault Refusal :=
  .next (whenOpen [] (requestWrite 9 tag (askRecords count)) s)

/-- STORE_DIRECTORY (R180). -/
def execStoreDirectory (tag start : Word) (s : State) : Host.Outcome State Fault Refusal :=
  .next (whenOpen [] (requestWrite 10 tag (askDirectory start)) s)

/-- PIN_ENTRY (R181). -/
def execPinEntry (tag unit cyl head sector : Word) (s : State) : Host.Outcome State Fault Refusal :=
  .next (whenOpen [] (requestWrite 11 tag (askPin true unit cyl head sector)) s)

/-- UNPIN_ENTRY (R181). -/
def execUnpinEntry (tag unit cyl head sector : Word) (s : State) : Host.Outcome State Fault Refusal :=
  .next (whenOpen [] (requestWrite 12 tag (askPin false unit cyl head sector)) s)

/-- DROP_ENTRY (R181). -/
def execDropEntry (tag unit cyl head sector : Word) (s : State) : Host.Outcome State Fault Refusal :=
  .next (whenOpen [] (requestWrite 13 tag (askDrop unit cyl head sector)) s)

/-- ADOPT_ENTRIES (R182). -/
def execAdoptEntries (tag unit : Word) (s : State) : Host.Outcome State Fault Refusal :=
  .next (whenOpen [] (requestWrite 14 tag (askAdopt unit)) s)

/-- CLEAR (R183). -/
def execClear (tag scope : Word) (s : State) : Host.Outcome State Fault Refusal :=
  .next (whenOpen [] (requestWrite 15 tag (askClear scope)) s)

/-- REQUEST_REFUSED (R168): a maintenance write with its data words and checkword. -/
def execRequestRefused (data : List Word) (check : Word) (s : State) :
    Host.Outcome State Fault Refusal :=
  .next (whenOpen [] (fun s =>
    let a := abandonCurrent s
    takeRequest a.controllerUnit data check a) s)

end Sys2Proof.Machine
end

