-- ==== Sys2Proof/Machine/Controller.lean ====
section
/-! DEFINITION. The controller's operations (Chapter 2), the arbiter's grant as a command, and what the relay
presents at its controller face. -/

namespace Sys2Proof.Machine

/-! ### What the controller face shows (R21) -/

/-- The status lines of a unit at the controller face. -/
structure Presented where
  ready : Bool
  onCylinder : Bool
  seekFault : Bool
  driveFault : Bool
  writeProtected : Bool
  deriving DecidableEq, Repr

/-- The five conditions as the drive of a unit reports them (2.1). -/
def reportedBy (e : UnitEntry) : Presented :=
  { ready := e.readyLine, onCylinder := e.onCylinderLine, seekFault := e.seekFaultLine,
    driveFault := e.faultLine, writeProtected := e.protectedLine }

/-- What the controller face shows for unit `u`: the drive's own report while the lines are joined (R18), and
otherwise what the relay presents (R21, R54). -/
def State.presented (s : State) (u : UnitNo) : Presented :=
  let e := s.unit u
  if s.bypassOpen then
    { reportedBy e with
      onCylinder := e.controllerCyl.isSome && !e.seekPending, seekFault := e.seekFaultShown }
  else reportedBy e

/-! ### Seeks (R19, R23) -/

/-- The controller's seek on unit `u` is given up (R51): its motion finishes unretried, `silent` after a
cable initialize (R42), and its recovery record goes. -/
def giveUpControllerSeek (silent : Bool) (e : UnitEntry) : UnitEntry :=
  { e with
    motion := e.motion.map fun m =>
      if m.issuer = .controller then { m with givenUp := true, silent := m.silent || silent } else m
    recovery := e.recovery.filter fun r => r.issuer ≠ .controller }

/-- A seek item not yet issued. -/
def Item.isWaitingSeekOf (u : UnitNo) (i : Item) : Bool := i.isSeekOf u && !i.isIssuedSeekOf u

/-- The item of a controller seek: one not yet issued is replaced and keeps its age; otherwise it is the
newest (R23, R45). -/
def placeSeekItem (u : UnitNo) (cmd : SeekCmd) (s : State) : State :=
  if s.items.any (Item.isWaitingSeekOf u) then
    { s with items := s.items.map fun i => if i.isWaitingSeekOf u then .seek u cmd false else i }
  else addItem (.seek u cmd false) (dropIssuedSeek u s)

/-- SEEK to cylinder 1023 (R23). -/
def seekMaintenance (u : UnitNo) (s : State) : State :=
  emit (.seekEnd u) (dropSeekItems u (modUnit u (fun e =>
    { giveUpControllerSeek false e with
      controllerCyl := some Config.maintenanceCylinder, seekPending := false, seekFaultShown := false }) s))

/-- A SEEK to another cylinder, or RETURN TO ZERO (R23). -/
def seekDrive (u : UnitNo) (cmd : SeekCmd) (s : State) : State :=
  placeSeekItem u cmd (modUnit u (fun e =>
    { giveUpControllerSeek false e with
      controllerCyl := some (seekTarget cmd), seekPending := true, seekFaultShown := false }) s)

/-! ### Writes (R38 to R41) -/

/-- A write refused PROTECTED and counted (R39, R41). -/
def blockWrite (u : UnitNo) (s : State) : State := emit (.answer u .writeProtected) (countBlocked u s)

/-- The record of a redirected write whose checkword did not match (R158, R159). -/
def cableCheckRecord (a : Addr) (expected received : Word) : Record :=
  .sector { gap := false, job := 0, addr := a, origin := none, result := .cableCheck,
            lastVerdict := none, attempts := 0, merged := 0,
            report := { DisputeReport.empty with expected := some expected, received := some received },
            disposition := .notKept, heldRevs := 0 }

/-- A redirected write received whole (R40). -/
def redirectWrite (a : Addr) (data : List Word) (check : Word) (s : State) : State :=
  if writeMatches data check then
    match offer a .redirectedWrite data s with
    | (.inserted, s) => emit (.answer a.unit .writeDone) (countRedirected a.unit s)
    | (_, s) => blockWrite a.unit s
  else
    emit (.answer a.unit .writeProtected) (appendRecord (cableCheckRecord a (wordSum data) check) s)

/-- The data field as it came: whole, with its checkword, or cut off (R16). -/
def wholeField (data : List Word) (check : Option Word) : Option Word :=
  if 256 ≤ data.length then check else none

/-- A checked write of which only a part has come: it is the current operation until the controller breaks
it off, and it leaves nothing (R16, R42, log 17). -/
def receiveWrite (a : Addr) (data : List Word) (s : State) : State :=
  { s with current := some ⟨a.unit, a.cyl, a.head, a.sector, .receiving data, none, false⟩ }

/-- A WRITE SECTOR on the maintenance cylinder (R26). -/
def writeMaintenance (a : Addr) (data : List Word) (check : Option Word) (s : State) : State :=
  if a.sector ≠ 0 then emit (.answer a.unit .writeProtected) s
  else match wholeField data check with
    | some c => takeRequest a.unit (data.take 256) c s
    | none => receiveWrite a data s

/-- A WRITE SECTOR that has passed the first three tests of R25, by the unit's policy (R38 to R40). -/
def writeByPolicy (a : Addr) (data : List Word) (check : Option Word) (s : State) : State :=
  match (s.unit a.unit).policy with
  | .pass => requestDrive ⟨a.unit, a.cyl, a.head, a.sector, .write data check, none, false⟩ s
  | .block => blockWrite a.unit s
  | .redirect =>
    if !(s.unit a.unit).geometry.present then blockWrite a.unit s
    else match wholeField data check with
      | some c => redirectWrite a (data.take 256) c s
      | none => receiveWrite a data s

/-- WRITE SECTOR taken on unit `u` (2.6). -/
def takeWrite (u : UnitNo) (head sector : Nat) (data : List Word) (check : Option Word) (s : State) :
    State :=
  if (s.unit u).controllerCyl = some Config.maintenanceCylinder then
    writeMaintenance ⟨u, Config.maintenanceCylinder, head, sector⟩ data check s
  else if !(s.unit u).ready then emit (.answer u (.status .notReady)) s
  else match onCylinder (s.unit u) with
    | none => emit (.answer u (.status .seekFault)) s
    | some c => writeByPolicy ⟨u, c, head, sector⟩ data check s

/-- FORMAT TRACK taken on unit `u` (R26, R41). The operation of a format, and so its held address, has sector
0 (log 43). -/
def takeFormat (u : UnitNo) (head : Nat) (headers : List Word) (s : State) : State :=
  if (s.unit u).controllerCyl = some Config.maintenanceCylinder then
    emit (.answer u .writeProtected) s
  else if !(s.unit u).ready then emit (.answer u (.status .notReady)) s
  else match onCylinder (s.unit u) with
    | none => emit (.answer u (.status .seekFault)) s
    | some c =>
      match (s.unit u).policy with
      | .pass => requestDrive ⟨u, c, head, 0, .format headers, none, false⟩ s
      | .block | .redirect => blockWrite u s

/-! ### Cable initialize (R42) -/

/-- A unit's hold ended, its controller side cleared, its controller seek given up silently. -/
def clearControllerSide (e : UnitEntry) : UnitEntry :=
  { giveUpControllerSeek true e with
    controllerCyl := none, seekPending := false, seekFaultShown := false, hold := none }

def Item.isSeek : Item → Bool
  | .seek _ _ _ => true
  | _ => false

/-- The controller clears the cable: no hold, no foreground job, no controller seek is left. -/
def clearCable (s : State) : State :=
  let s := releaseForeground s
  { s with
    units := s.units.map clearControllerSide
    controllerUnit := 0
    items := s.items.filter fun i => !i.isSeek }

/-! ### The commands -/

/-- UNIT_SELECT (R19). -/
def execUnitSelect (u : UnitNo) (s : State) : Host.Outcome State Fault Refusal :=
  .next (throughRelay [] (joinedSelect u)
    (fun s => emit (.selected u) { abandonCurrent s with controllerUnit := u }) s)

/-- SEEK (R23). -/
def execSeek (cyl : Nat) (s : State) : Host.Outcome State Fault Refusal :=
  .next (throughRelay [] (joinedSeek (.to cyl)) (fun s =>
    let a := abandonCurrent s
    if cyl = Config.maintenanceCylinder then seekMaintenance a.controllerUnit a
    else seekDrive a.controllerUnit (.to cyl) a) s)

/-- RETURN_TO_ZERO (R23). -/
def execReturnToZero (s : State) : Host.Outcome State Fault Refusal :=
  .next (throughRelay [] (joinedSeek .zero) (fun s =>
    let a := abandonCurrent s
    seekDrive a.controllerUnit .zero a) s)

/-- READ_SECTOR (R25). -/
def execReadSector (head sector : Nat) (noise : List ReadoutNoise) (s : State) :
    Host.Outcome State Fault Refusal :=
  .next (throughRelay noise (joinedRead head sector) (fun s =>
    let a := abandonCurrent s
    settleIfRetired (takeRead a.controllerUnit head sector) a) s)

/-- WRITE_SECTOR (R38). -/
def execWriteSector (head sector : Nat) (data : List Word) (check : Option Word) (s : State) :
    Host.Outcome State Fault Refusal :=
  .next (throughRelay [] (joinedWrite (.writeSector head sector) (data ++ check.toList)) (fun s =>
    let a := abandonCurrent s
    takeWrite a.controllerUnit head sector data check a) s)

/-- FORMAT_TRACK (R41). -/
def execFormatTrack (head : Nat) (headers : List Word) (s : State) : Host.Outcome State Fault Refusal :=
  .next (throughRelay [] (joinedWrite (.formatTrack head) headers) (fun s =>
    let a := abandonCurrent s
    takeFormat a.controllerUnit head headers a) s)

/-- CABLE_INITIALIZE (R42). -/
def execCableInitialize (s : State) : Host.Outcome State Fault Refusal :=
  .next (throughRelay [] joinedInitialize (fun s => clearCable (abandonCurrent s)) s)

/-- GRANT (R47). -/
def execGrant (noise : List ReadoutNoise) (s : State) : Host.Outcome State Fault Refusal :=
  .next (whenOpen noise decideGrant s)

end Sys2Proof.Machine
end

