-- ==== Sys2Proof/Machine/Merge.lean ====
section
/-! DEFINITION. The Merge Unit: candidates, tallies, the verdict and the dispute report (Chapter 7). -/

namespace Sys2Proof.Machine

/-! ### What a capture brings (R108) -/

/-- The check unit's erasure marks on position `p`, from the descriptor (R10). -/
def erasedAt (x : Slot) (p : Nat) : Bool :=
  (match x.dropout with
    | some d => decide (d ≤ p)
    | none => false) || (p = 256 && x.received = some Config.minusZero)

/-- A capture as the merge takes it, from its slot and a merge readout (R107, R108). -/
def mergeCapture (x : Slot) (words : List (Option Word)) : MergeCapture :=
  { credit := x.credit.getD 0
    sums := x.sums
    values := (words.zipIdx 0).map fun p =>
      if erasedAt x p.2 || (p.2 = 256 && p.1 = some Config.minusZero) then none else p.1 }

/-! ### Position by position (R109, R110) -/

/-- A vote of weight `credit` for `v`, the candidates kept in the order in which they were first shown. -/
def addVote (v : Word) (credit : Nat) : List (Word × Nat) → List (Word × Nat)
  | [] => [(v, credit)]
  | x :: l => if x.1 = v then (v, x.2 + credit) :: l else x :: addVote v credit l

/-- The candidates of position `p` with their tallies, the earliest shown first. -/
def tallies (captures : List MergeCapture) (p : Nat) : List (Word × Nat) :=
  captures.foldl (fun acc c =>
    match c.values.getD p none with
    | none => acc
    | some v => addVote v c.credit acc) []

/-- A candidate put behind those of at least its tally. -/
def insertRank (x : Word × Nat) : List (Word × Nat) → List (Word × Nat)
  | [] => [x]
  | y :: l => if y.2 < x.2 then x :: y :: l else y :: insertRank x l

/-- The candidates ranked by tally, ties by the earliest capture that shows them (R109). -/
def ranked (captures : List MergeCapture) (p : Nat) : List (Word × Nat) :=
  (tallies captures p).foldl (fun acc x => insertRank x acc) []

/-- A position's condition in the merge (R110); an undecided one keeps its ranked candidates. -/
inductive Condition where
  | decided (w : Word)
  | undecided (candidates : List Word)
  | void
  deriving DecidableEq, Repr

def conditionOf (q : Nat) : List (Word × Nat) → Condition
  | [] => .void
  | [x] => .decided x.1
  | x :: y :: l =>
    if q ≤ x.2 ∧ y.2 < x.2 then .decided x.1 else .undecided ((x :: y :: l).map Prod.fst)

/-- The merged word of a position (R110). -/
def mergedWord : Condition → Word
  | .decided w => w
  | .undecided l => l.headD 0
  | .void => 0

/-- The word of a decided position. -/
def decidedWord : Condition → Option Word
  | .decided w => some w
  | _ => none

/-- The conditions of the 256 data positions. -/
def dataConditions (q : Nat) (captures : List MergeCapture) : List Condition :=
  (List.range 256).map fun p => conditionOf q (ranked captures p)

/-- The set U: the data positions that are undecided or void, lowest first (R112). -/
def openPositions (conds : List Condition) : List (Nat × Condition) :=
  ((conds.zipIdx 0).filter fun x => (decidedWord x.1).isNone).map fun x => (x.2, x.1)

/-! ### Trial and fill (R113 to R117) -/

/-- The top two candidates of each position of U; none when a position is void (R113, R114). -/
def topTwo : List (Nat × Condition) → Option (List (Word × Word))
  | [] => some []
  | (_, .undecided (a :: b :: _)) :: l => (topTwo l).map fun r => (a, b) :: r
  | _ => none

/-- The combinations in their fixed order: the lowest position changes at every one (R114). -/
def combinations : List (Word × Word) → List (List Word)
  | [] => [[]]
  | (a, b) :: l => (combinations l).flatMap fun rest => [a :: rest, b :: rest]

/-- The combinations that make the data sum `c` (R114). -/
def trialMatches (fixed c : Word) (pairs : List (Word × Word)) : List (List Word) :=
  (combinations pairs).filter fun vals => wordSum (fixed :: vals) = c

/-- Words put at positions. -/
def placeWords (data : List Word) (at_ : List (Nat × Word)) : List Word :=
  at_.foldl (fun d x => d.set x.1 x.2) data

/-- The fill value: what the decided sum lacks of C (R116). -/
def fillValue (fixed c : Word) : Word :=
  if fixed.toNat ≤ c.toNat then BitVec.ofNat 12 (c.toNat - fixed.toNat)
  else BitVec.ofNat 12 (c.toNat + 4095 - fixed.toNat)

/-- The words that fit at the filled position (R116). -/
def acceptable (f w : Word) : Bool := if f = 0 then w = 0 || w = Config.minusZero else w = f

/-- Fill, which applies when U holds one position (R116, R117), and what is left when it does not
(R118). -/
def fillVerdict (fixed c : Word) (merged : List Word) :
    List (Nat × Condition) → Verdict × List Word
  | [(p, .undecided l)] =>
    match l.filter (acceptable (fillValue fixed c)) with
    | [w] => (.byFill, placeWords merged [(p, w)])
    | [] => (.conflict, merged)
    | _ => (.ambiguous, merged)
  | [(p, .void)] =>
    if fillValue fixed c = 0 then (.ambiguous, merged)
    else (.byFill, placeWords merged [(p, fillValue fixed c)])
  | _ => (.unresolved, merged)

/-- Trial when it applies, fill when it does not or finds no match (R113 to R118). -/
def openVerdict (t n : Nat) (fixed c : Word) (merged : List Word) (opens : List (Nat × Condition)) :
    Verdict × List Word :=
  match (if opens.length ≤ t ∧ 3 ≤ n then topTwo opens else none) with
  | none => fillVerdict fixed c merged opens
  | some pairs =>
    match trialMatches fixed c pairs with
    | [vals] => (.byTrial, placeWords merged ((opens.map Prod.fst).zip vals))
    | [] => fillVerdict fixed c merged opens
    | _ => (.ambiguous, merged)

/-- The verdict on a list of captures and the data words it hands over (R112 to R119). -/
def mergeVerdictOf (q t : Nat) (captures : List MergeCapture) : Verdict × List Word :=
  let conds := dataConditions q captures
  let merged := conds.map mergedWord
  match conditionOf q (ranked captures 256) with
  | .decided c =>
    match openPositions conds with
    | [] => (if wordSum merged = c then .byVote else .conflict, merged)
    | opens => openVerdict t captures.length (wordSum (conds.filterMap decidedWord)) c merged opens
  | _ => (.unverified, merged)

/-- A verdict that recovers the sector (R119). -/
def recovering : Verdict → Bool
  | .byVote | .byTrial | .byFill => true
  | _ => false

/-! ### The dispute report (R120, R121) -/

/-- A data position at which some capture is erased, or that has more than one candidate. -/
def positionDisputed (captures : List MergeCapture) (p : Nat) : Bool :=
  captures.any (fun c => (c.values.getD p none).isNone) || 1 < (tallies captures p).length

/-- Segment `k` is disputed, found as the unit finds it: from the recorded segment sums, and position by
position where they are present and equal (R120). -/
def segmentDisputed (captures : List MergeCapture) (k : Nat) : Bool :=
  let sums := captures.map fun c => c.sums.getD k none
  sums.any Option.isNone || sums.any (fun x => x ≠ sums.headD none) ||
    (List.range 16).any fun i => positionDisputed captures (16 * k + i)

/-- The report of a merge whose verdict is `v` on `data` (R121). -/
def disputeReport (q : Nat) (captures : List MergeCapture) (v : Verdict) (data : List Word) :
    DisputeReport :=
  let conds := dataConditions q captures
  let disputed := (List.range 16).filter (segmentDisputed captures)
  { disputed := disputed.length
    first := disputed.head?
    undecided := (openPositions conds).length
    expected := if recovering v || !conds.contains .void then some (wordSum data) else none
    received := decidedWord (conditionOf q (ranked captures 256)) }

end Sys2Proof.Machine
end

