-- ==== Sys2Proof/Machine/Streams.lean ====
section
/-! DEFINITION. The ends of streams, revolutions and merges, and what the relay or the job does at each
(Chapters 1, 2, 5 to 8). -/

namespace Sys2Proof.Machine

/-! ### Merges asked for (R79, R102, R107) -/

/-- Merge readouts of a list of captures, in list order (R107). -/
def readCaptures : List SlotId → State → List MergeCapture × State
  | [], s => ([], s)
  | i :: l, s =>
    let got := readPositions i s
    let rest := readCaptures l got.2
    (mergeCapture (s.slot i) got.1 :: rest.1, rest.2)

/-- Job `n` asks for a merge of a list; the merge takes Q and T as they stand (R106, R107). -/
def askMerge (n sector : Nat) (list : List SlotId) (s : State) : State :=
  let got := readCaptures list s
  modJob n (fun j => { j with
    state := .merging
    merges := j.merges ++ [{ sector := sector, q := s.q, t := s.t, captures := got.1 }] }) got.2

/-! ### After an attempt (R102 to R104) -/

/-- The condition of R102: two captures or more, and one has joined since the last merge was asked for. -/
def mergeDue (j : Job) : Bool := 2 ≤ j.list.length && j.joined

/-- Job `n` asks for a merge of its list; `last` is the final merge of R104. -/
def mergeList (n : Nat) (last : Bool) (s : State) : State :=
  match s.job n with
  | none => s
  | some j =>
    askMerge n j.sector j.list (modJob n (fun j => { j with joined := false, finalMerge := last }) s)

/-- The job goes to QUEUED for its next attempt or revolution (R77). -/
def requeue (n : Nat) (f : Job → Job) (s : State) : State :=
  modJob n (fun j => f { j with
    state := .queued, actionSecond := false, actionDone := false, claimChecked := false,
    restarted := false }) s

/-- The advance in the plan after an attempt (R103), or the end of an exhausted plan (R104). -/
def advancePlan (n : Nat) (s : State) : State :=
  match s.job n with
  | none => s
  | some j =>
    if j.restarted then requeue n id s
    else if j.attempt < (s.stepOf j).attempts then
      requeue n (fun j => { j with attempt := j.attempt + 1 }) s
    else if j.stepIndex < (s.plans.get j.plan).length then
      requeue n (fun j => { j with stepIndex := j.stepIndex + 1, attempt := 1, headerMark := .none }) s
    else if mergeDue j then mergeList n true s
    else endJob n .unrecovered s

/-- The merge decision of R102 at the end of an attempt, and the advance when no merge is asked for. -/
def afterAttempt (n : Nat) (s : State) : State :=
  match s.job n with
  | none => s
  | some j => if mergeDue j then mergeList n false s else advancePlan n s

/-! ### A sector job's own read (R101) -/

/-- A unit's positioning owner is cleared at the end of the owner's read (R48). -/
def clearOwner (n : Nat) (u : UnitNo) : State → State :=
  modUnit u fun e => { e with owner := e.owner.filter fun o => o ≠ n }

/-- The slot a stream leaves with its issuer (R13). -/
def keptSlot (f : Finding) (slot : Option SlotId) : Option SlotId :=
  if keptOutcome f.outcome then slot else none

/-- A slot's stream closed, when the read has a slot. -/
def closeOption (slot : Option SlotId) (a : Addr) (d : Delivery) (f : Finding) (s : State) : State :=
  match slot with
  | some i => closeSlot i a d f s
  | none => s

/-- What the job does with its attempt's outcome (R101). An attempt whose job an escalation has ended goes no
further (R92), also where the track job has drawn the number that came free (R73). -/
def attemptOutcome (n : Nat) (f : Finding) (slot : Option SlotId) (s : State) : State :=
  match (s.job n).filter fun j => j.kind = .sector with
  | none => s
  | some j =>
    let s := markHeader n f.outcome s
    match keptSlot f slot with
    | none => afterAttempt n s
    | some i =>
      if f.outcome = .clean then
        match endClean n i s with
        | (false, s) => s
        | (true, s) => afterAttempt n (joinList n i j.readCredit s)
      else afterAttempt n (joinList n i j.readCredit s)

/-- The check unit examines the streams of unit `u`: its geometry entry marks it present at the stream's end
(R6, log 41). -/
def State.examines (s : State) (u : UnitNo) : Bool := (s.unit u).geometry.present

/-- The end of a sector job's READ SECTOR (R13, R48, R91, R101); a stream that is not examined is not reported
(R6). Of an abandoned read only the grant ends: its job has left the table (R14, R90). -/
def jobStream (n : Nat) (g : Grant) (sector : Nat) (head : Nat) (d : Delivery) (s : State) : State :=
  let freed := { s with grant := none }
  let s := clearOwner n g.unit freed
  if g.abandoned then freed
  else if !s.examines g.unit then s
  else
    let a : Addr := ⟨g.unit, g.cyl, head, sector⟩
    let f := judge g.cyl head sector d
    attemptOutcome n f g.slots.head? (feedOffTrack a f.outcome (closeOption g.slots.head? a d f s))

/-! ### A track job's read (R129 to R131) -/

def modRow (n k : Nat) (f : SectorRow → SectorRow) : State → State :=
  modJob n fun j => { j with rows := j.rows.set k (f (rowOf j k)) }

/-- A sector's row with one more capture filed (R129). -/
def fileRow (i : SlotId) (clean : Bool) (r : SectorRow) : SectorRow :=
  { r with
    list := r.list ++ [i]
    firstFiled := some (r.firstFiled.getD i)
    firstClean := if clean then some (r.firstClean.getD i) else r.firstClean
    revsCaptured := if r.capturedNow then r.revsCaptured else r.revsCaptured + 1
    capturedNow := true
    revsClean := if clean && !r.cleanNow then r.revsClean + 1 else r.revsClean
    cleanNow := r.cleanNow || clean }

/-- The relay is told of a sector's first CLEAN capture: it delivers it when it holds a read of that sector
for this job (R36, R129, R134). -/
def tellFirstClean (n k : Nat) (s : State) : State :=
  match s.current, s.foregroundJob with
  | some op, some j => if j.number = n ∧ op.sector = k then deliverFirstClean s else s
  | _, _ => s

/-- A capture filed under sector `k`, or released when the list is full (R129). -/
def fileCapture (n k : Nat) (i : SlotId) (clean : Bool) (s : State) : State :=
  match s.job n with
  | none => s
  | some j =>
    if j.revsRequested ≤ (rowOf j k).list.length then releaseSlot i s
    else
      let s := modRow n k (fileRow i clean) (setCredit i j.readCredit s)
      if clean && (rowOf j k).firstClean.isNone then tellFirstClean n k s else s

/-- One stream of a READ TRACK (R11, R13, R129, R130). Marks at or above the sectors per track have no slot
and are not reported, nor is a stream that is not examined (R6). -/
def trackStream (n : Nat) (g : Grant) (head : Nat) (d : Delivery) (s : State) : State :=
  match g.abandoned || !s.examines g.unit, s.job n, g.slots[g.nextMark]? with
  | false, some j, some i =>
    let f := judgeTrack g.cyl head g.nextMark j.rows.length d
    let s := closeSlot i ⟨g.unit, g.cyl, head, f.sector⟩ d f
      { s with grant := some { g with nextMark := g.nextMark + 1 } }
    if keptOutcome f.outcome then fileCapture n f.sector i (f.outcome = .clean) s
    else if f.outcome = .wrongHeader ∧ (f.named.1 ≠ g.cyl ∨ f.named.2.1 ≠ head) then
      modJob n (fun j => { j with revOffTrack := j.revOffTrack + 1 }) s
    else s
  | _, _, _ => s

/-! ### The final stage (R132) -/

/-- The data of the first capture of a list whose delivery readout is clean. -/
def firstReadable : List SlotId → State → Option (List Word) × State
  | [], s => (none, s)
  | i :: l, s =>
    match readData i s with
    | (some data, s) => (some data, s)
    | (none, s) => firstReadable l s

/-- Step 1 for sector `k`: its CLEAN captures read out in list order; a superseded sector is settled. -/
def settleClean (n k : Nat) (s : State) : State :=
  match s.job n with
  | none => s
  | some j =>
    let r := rowOf j k
    if r.superseded then modRow n k (fun r => { r with outcome := some .superseded }) s
    else
      match firstReadable (r.list.filter fun i => (s.slot i).outcome = some .clean) s with
      | (some data, s) => modRow n k (fun r => { r with outcome := some .clean, data := some data }) s
      | (none, s) => s

/-- Steps 2 and 3 for sector `k`: a merge of two captures or more, otherwise UNRECOVERED. -/
def settleMerge (n k : Nat) (s : State) : State :=
  match s.job n with
  | none => s
  | some j =>
    let r := rowOf j k
    if r.outcome.isSome then s
    else if 2 ≤ r.list.length then askMerge n k r.list s
    else modRow n k (fun r => { r with outcome := some .unrecovered }) s

/-- A track job with no merge outstanding ends COMPLETED (R132). -/
def endIfMerged (n : Nat) (s : State) : State :=
  match s.job n with
  | none => s
  | some j => if j.merges.isEmpty then endJob n .completed s else s

/-- The final stage: every sector's CLEAN captures first, then the merges (R132). -/
def finalStage (n : Nat) (s : State) : State :=
  match s.job n with
  | none => s
  | some j =>
    let sectors := List.range j.rows.length
    let s := sectors.foldl (fun s k => settleClean n k s) s
    endIfMerged n (sectors.foldl (fun s k => settleMerge n k s) s)

/-- What the closing INDEX mark makes of the job's counts (R131): revolutions done, and a track reseek due
when half or more of the streams were off-track. -/
def closeRevolution (j : Job) : Job :=
  { j with
    revsDone := j.revsDone + 1
    trackReseek := j.trackReseek || j.rows.length ≤ 2 * j.revOffTrack }

/-- The closing INDEX mark of job `n`'s READ TRACK (R130, R131); of an abandoned one only the grant ends (R14,
R137). -/
def closeReadTrack (n : Nat) (g : Grant) (s : State) : State :=
  let freed := { s with grant := none }
  let s := clearOwner n g.unit freed
  if g.abandoned then freed
  else
    let s := modJob n closeRevolution (releaseSlots (g.slots.drop g.nextMark) s)
    match s.job n with
    | none => s
    | some j =>
      if j.revsDone < j.revsRequested ∧ j.rows.any (fun r => !r.superseded && r.firstClean.isNone) then
        requeue n id s
      else finalStage n s

/-! ### Verdicts (R79, R132) -/

/-- A verdict is written into the record of a sector job, which ends or goes on (R79, R102 to R104). -/
def sectorVerdict (j : Job) (v : Verdict) (data : List Word) (s : State) : State :=
  if recovering v then
    endJob j.number (.recovered v) (modJob j.number (fun j => { j with data := some data }) s)
  else if j.finalMerge then endJob j.number .unrecovered s
  else advancePlan j.number s

/-- A verdict gives a track job's sector its outcome; the last one ends the job (R132). -/
def trackVerdict (j : Job) (k : Nat) (v : Verdict) (data : List Word) (s : State) : State :=
  endIfMerged j.number (modRow j.number k (fun r => { r with
    outcome := some (verdictResult v), data := if recovering v then some data else none }) s)

/-- The merge of sector `k` of job `n` ends: verdict, dispute report and captures merged are written
together (R79, R122). -/
def writeVerdict (n k : Nat) (s : State) : State :=
  match s.job n with
  | none => s
  | some j =>
    match j.merges.find? fun m => m.sector = k with
    | none => s
    | some m =>
      let v := mergeVerdictOf m.q m.t m.captures
      let s := modJob n (fun j => { j with
        lastVerdict := some v.1, report := some (disputeReport m.q m.captures v.1 v.2),
        merged := m.captures.length, merges := j.merges.filter fun m => m.sector ≠ k }) s
      settleJobs (
        match j.kind with
        | .sector => sectorVerdict j v.1 v.2 s
        | .track => trackVerdict j k v.1 v.2 s)

/-! ### The relay's reads (R25, R29 to R32) -/

/-- A CHECK_FIRST read has been checked (R30). -/
def checkedReport (a : Addr) (f : Finding) (i : SlotId) (s : State) : State :=
  if f.outcome = .clean then
    match readData i s with
    | (some data, s) => releaseSlot i (answerData data s)
    | (none, s) => relayFailure a .clean true none (releaseSlot i s)
  else relayFailure a f.outcome true (keptSlot f (some i)) s

/-- A CUT_THROUGH read of an address a job owns has been checked (R32, R84). The outcome feeds the count, that
of a read without a slot too (log 46), and the slot is offered to the sector job; for a track job, or when no
job is left, it is released. -/
def ownedReport (a : Addr) (f : Finding) (slot : Option SlotId) (abandoned : Bool) (s : State) : State :=
  match s.sectorJob a with
  | none => releaseOption (keptSlot f slot) s
  | some _ =>
    if abandoned ∧ f.outcome = .clean then releaseOption (keptSlot f slot) s
    else
      let s := feedOffTrack a f.outcome s
      match s.sectorJob a with
      | none => releaseOption (keptSlot f slot) s
      | some j =>
        let s := markHeader j.number f.outcome s
        match keptSlot f slot with
        | none => s
        | some i => offerCapture j.number i false s

/-- A pass read whose words went up, or were abandoned, has been checked (R19, R29, R31). -/
def passReport (a : Addr) (f : Finding) (slot : Option SlotId) (s : State) : State :=
  if f.outcome = .clean then releaseOption (keptSlot f slot) s
  else relayFailure a f.outcome false (keptSlot f slot) s

/-- The stream-checked report of a relay read acted on; `waits`: the controller waits for the check. -/
def relayReport (k : ReadKind) (waits abandoned : Bool) (a : Addr) (f : Finding) (slot : Option SlotId)
    (s : State) : State :=
  match k with
  | .pass =>
    match waits, slot with
    | true, some i => checkedReport a f i s
    | _, _ => passReport a f slot s
  | .owned => ownedReport a f slot abandoned s
  | .outside | .straight | .held => s

/-- The end of a relay read's stream (R13, R29 to R32). Words that go up have gone up when it ends; an
abandoned read's do not (R19). A not-present unit's stream is not examined (R6): a slot that it was filling
goes back, and its words pass (log 41). -/
def relayStream (g : Grant) (k : ReadKind) (head sector : Nat) (d : Delivery) (s : State) : State :=
  let slot := g.slots.head?
  let waits := s.examines g.unit && !g.abandoned && !sentUp k slot (s.unit g.unit).geometry.mode
  let s := { s with grant := none }
  let s := if waits || g.abandoned then s else answerCurrent (deliveryAnswer d) s
  if !s.examines g.unit then releaseOption slot s
  else
    let a : Addr := ⟨g.unit, g.cyl, head, sector⟩
    let f := judge g.cyl head sector d
    relayReport k waits g.abandoned a f slot (closeOption slot a d f s)

/-- A drive's stream ends (R13): it is the stream of the READ SECTOR or READ TRACK on the cable. -/
def endStream (d : Delivery) (s : State) : State :=
  match s.grant with
  | none => s
  | some g =>
    match g.holder, g.op with
    | .relay k, .readSector head sector => settleJobs (relayStream g k head sector d s)
    | .job n, .readSector head sector => settleJobs (jobStream n g sector head d s)
    | .job n, .readTrack head => settleJobs (trackStream n g head d s)
    | _, _ => s

end Sys2Proof.Machine
end

