-- ==== Sys2Proof/Machine/Drives.lean ====
section
/-! DEFINITION. What the drives report (Chapters 1 to 3 and 8): the ends of motions, faults, READY, streams,
write answers and closing INDEX marks, and the commands that stand for them. -/

namespace Sys2Proof.Machine

/-! ### SEEK END (R22, R24, R50) -/

/-- The heads have arrived: the drive cylinder is the motion's target (R22). -/
def arrive (u : UnitNo) (m : Motion) : State → State :=
  modUnit u fun e => { e with motion := none, driveCyl := some m.target }

/-- A controller motion has ended at its target: SEEK END is raised where seek-pending is set and the
controller stands on that cylinder (R24). -/
def raiseSeekEnd (u : UnitNo) (target : Nat) (s : State) : State :=
  if (s.unit u).seekPending ∧ (s.unit u).controllerCyl = some target then
    emit (.seekEnd u) (modUnit u (fun e => { e with seekPending := false }) s)
  else s

/-- One command of a reposition action has ended: the second is due, or the action is complete (R96,
R97, R99, R127). With the action reposition-needed is cleared, of a sector job as R96 has it; of a track job
this is the model's choice (log 60), as R78 names the end of the whole positioning and R96 the sector job's
attempt. -/
def advanceAction (j : Job) : Job :=
  if j.actionSecond then
    { j with
      actionSecond := false, actionDone := true, repositionNeeded := false,
      headerMark := if j.headerMark = .due then .done else j.headerMark }
  else { j with actionSecond := true }

/-- A job's own motion has ended (R50, R95). -/
def jobArrived (n : Nat) (m : Motion) (s : State) : State :=
  modJob n (fun j => if j.state = .positioning ∧ m.forAction then advanceAction j else j) s

/-- The SEEK END of a motion delivered to its issuer (R50). A motion whose issuer has given it up tells no
job; the controller is told by R24 alone, and not at all after a cable initialize (R42). -/
def deliverSeekEnd (u : UnitNo) (m : Motion) (s : State) : State :=
  match m.issuer with
  | .controller =>
    if m.silent then s
    else if m.givenUp then raiseSeekEnd u m.target s
    else dropIssuedSeek u (raiseSeekEnd u m.target s)
  | .relay => s
  | .job n => if m.givenUp then s else jobArrived n m s

/-- The RETURN TO ZERO of a seek's retry has ended, and the repeated SEEK is due (R51). -/
def homeReached (e : UnitEntry) : Bool :=
  match e.recovery with
  | some r => r.phase = .homeMoving && !r.home
  | none => false

/-- SEEK END from unit `u`'s drive (R22, R50, R51). -/
def takeSeekEnd (u : UnitNo) (s : State) : State :=
  match (s.unit u).motion with
  | none => s
  | some m =>
    let s := arrive u m s
    settleJobs (
      if m.givenUp then deliverSeekEnd u m s
      else if homeReached (s.unit u) then
        modUnit u (fun e => { e with
          recovery := e.recovery.map fun r => { r with phase := .seekDue } }) s
      else deliverSeekEnd u m (modUnit u (fun e => { e with recovery := none }) s))

/-! ### SEEK FAULT (R51, R52) -/

/-- The recovery record of a first fault (R51). -/
def freshRecovery (m : Motion) : Recovery :=
  { issuer := m.issuer, target := m.target, home := m.home, used := 0, phase := .homeDue,
    forAction := m.forAction }

/-- The current operation is answered with a status, its slot released if it is not on the cable (R52, R53,
R55). -/
def failCurrent (st : Status) (s : State) : State :=
  match s.current with
  | none => s
  | some op => answerCurrent (.status st) (if op.issued then s else releaseOption op.slot s)

def showSeekFault (u : UnitNo) : State → State :=
  modUnit u fun e => { e with seekFaultShown := true }

/-- The retries of a seek are exhausted: its issuer is told (R52). -/
def exhaustSeek (u : UnitNo) (i : Issuer) (s : State) : State :=
  match i with
  | .controller =>
    dropIssuedSeek u (showSeekFault u (modUnit u (fun e => { e with
      seekPending := false, controllerCyl := none }) s))
  | .relay => showSeekFault u (failCurrent .seekFault s)
  | .job n => endJob n .faultedSeek s

/-- SEEK FAULT from unit `u`'s drive (R22, R51, R52). -/
def takeSeekFault (u : UnitNo) (s : State) : State :=
  match (s.unit u).motion with
  | none => s
  | some m =>
    let e := s.unit u
    let r := e.recovery.getD (freshRecovery m)
    let s := modUnit u (fun e => { e with motion := none }) s
    settleJobs (
      if m.givenUp then s
      else if e.geometry.retryLimit ≤ r.used then
        exhaustSeek u r.issuer (modUnit u (fun e => { e with recovery := none }) s)
      else modUnit u (fun e => { e with recovery := some { r with phase := .homeDue } }) s)

/-! ### A unit fails (R53, R55) -/

/-- A relay's read cut short: words on their way up break off, and the slot is released (R7, R53); the same
for a read that the controller has abandoned (log 42). -/
def cutRelayRead (g : Grant) (k : ReadKind) (arrived : List Word) (s : State) : State :=
  let slot := g.slots.head?
  let s := if !g.abandoned && sentUp k slot (s.unit g.unit).geometry.mode then
    emitBroken g.unit arrived s else s
  match slot with
  | some i => releaseSlot i (cutSlot i arrived s)
  | none => s

/-- A job's read cut short: the slot that was filling keeps what came (R7); the job's end releases it. -/
def cutJobRead (g : Grant) (arrived : List Word) (s : State) : State :=
  match g.abandoned, g.slots[g.nextMark]? with
  | false, some i => cutSlot i arrived s
  | _, _ => s

/-- The operation in flight on unit `u` is cut short, and its grant ends (R43, R53). -/
def cutGrant (u : UnitNo) (arrived : List Word) (s : State) : State :=
  match s.grant with
  | none => s
  | some g =>
    if g.unit ≠ u then s
    else
      let s := { s with grant := none }
      match g.holder, g.op with
      | .relay k, .readSector _ _ => cutRelayRead g k arrived s
      | .job _, _ => cutJobRead g arrived s
      | _, _ => s

/-- A redirected or maintenance write is being received. -/
def receivingWrite (op : ControllerOp) : Bool :=
  match op.kind with
  | .receiving _ => true
  | _ => false

/-- All work on unit `u` ends (R53, R55): the operation in flight, the motion, its jobs, the controller's
operation with status `st`, and its seek item. `all` takes in a write that is only being received. -/
def failUnit (u : UnitNo) (st : Status) (all : Bool) (arrived : List Word) (s : State) : State :=
  let s := modUnit u (fun e => { e with motion := none, driveCyl := none, recovery := none })
    (cutGrant u arrived s)
  let s := endJobs (fun j => j.unit = u) (.faultedDrive st) s
  let s := match s.current with
    | some op => if op.unit = u ∧ (all ∨ ¬receivingWrite op) then failCurrent st s else s
    | none => s
  clearOffTrack u (modUnit u (fun e => { e with seekPending := false, controllerCyl := none })
    (dropSeekItems u s))

/-- The onset of DRIVE FAULT on unit `u` (R53). -/
def faultOnset (u : UnitNo) (arrived : List Word) (s : State) : State :=
  if (s.unit u).faultLine then s
  else settleJobs (noteDriveFault (failUnit u .driveFault false arrived
    (modUnit u (fun e => { e with faultLine := true }) s)))

/-- A fall of READY on unit `u` (R55). -/
def readyDown (u : UnitNo) (arrived : List Word) (s : State) : State :=
  if !(s.unit u).readyLine then s
  else settleJobs (failUnit u .notReady true arrived (modUnit u (fun e => { e with
    readyLine := false, ready := false, generation := e.generation + 1, seekFaultShown := false }) s))

/-! ### A unit returns to service (R54, R56) -/

/-- The unit's margins are UNKNOWN and a margin item asks for them (R54). -/
def returnUnit (u : UnitNo) (s : State) : State :=
  settleJobs (addMarginItem u (modUnit u (fun e => { e with strobe := none, offset := none }) s))

/-- The drive of unit `u` stops reporting DRIVE FAULT (R54). -/
def faultCleared (u : UnitNo) (s : State) : State :=
  if (s.unit u).faultLine then returnUnit u (modUnit u (fun e => { e with faultLine := false }) s) else s

/-- A rise of READY on unit `u` (R56). -/
def readyUp (u : UnitNo) (s : State) : State :=
  if (s.unit u).readyLine then s
  else returnUnit u (modUnit u (fun e => { e with readyLine := true, ready := true }) s)

/-- A change of a drive's line: with the bypass closed only the line changes (log 5), and an operation that
the drive stops on the joined lines breaks off (R18). -/
def lineChange (u : UnitNo) (line : UnitEntry → UnitEntry) (joined f : State → State) (s : State) : State :=
  modUnit u line (throughRelay [] joined f s)

/-- The drive reports that its heads have arrived (2.1). -/
def reportArrival (u : UnitNo) : State → State := modUnit u fun e => { e with onCylinderLine := true }

/-- The drive reports SEEK FAULT (2.1). -/
def reportSeekFault (u : UnitNo) : State → State := modUnit u fun e => { e with seekFaultLine := true }

/-! ### Write answers and closing marks (R38, R41, R131) -/

/-- The drive's answer ends the grant of a write or format; it goes to the controller unless the operation
is abandoned (R38, R42, R43). The drive has the words as the controller sent them (log 44). -/
def takeWriteAnswer (a : DriveAnswer) (s : State) : State :=
  match s.grant with
  | none => s
  | some g =>
    match g.op with
    | .readSector _ _ | .readTrack _ => s
    | .writeSector _ _ | .formatTrack _ =>
      let s := { s with grant := none }
      if g.abandoned then s
      else match s.current with
        | none => s
        | some op => answerCurrent (writeAnswerOf a) (sendWords op.unit (sentWords op.kind) s)

/-- The closing INDEX mark of the READ TRACK on the cable (R131). -/
def takeRevolutionEnd (s : State) : State :=
  match s.grant with
  | none => s
  | some g =>
    match g.holder, g.op with
    | .job n, .readTrack _ => settleJobs (closeReadTrack n g s)
    | _, _ => s

/-! ### The commands -/

/-- SEEK_END (R50). -/
def execSeekEnd (u : UnitNo) (noise : List ReadoutNoise) (s : State) :
    Host.Outcome State Fault Refusal :=
  .next (throughRelay noise (emit (.seekEnd u)) (takeSeekEnd u) (reportArrival u s))

/-- SEEK_FAULT (R51). -/
def execSeekFault (u : UnitNo) (noise : List ReadoutNoise) (s : State) :
    Host.Outcome State Fault Refusal :=
  .next (throughRelay noise id (takeSeekFault u) (reportSeekFault u s))

/-- DRIVE_FAULT (R53). -/
def execDriveFault (u : UnitNo) (arrived : List Word) (s : State) : Host.Outcome State Fault Refusal :=
  .next (lineChange u (fun e => { e with faultLine := true }) (joinedCut u arrived) (faultOnset u arrived) s)

/-- RETURN_TO_SERVICE (R54). -/
def execReturnToService (u : UnitNo) (s : State) : Host.Outcome State Fault Refusal :=
  .next (lineChange u (fun e => { e with faultLine := false }) id (faultCleared u) s)

/-- READY_FALL (R55). -/
def execReadyFall (u : UnitNo) (arrived : List Word) (s : State) : Host.Outcome State Fault Refusal :=
  .next (lineChange u (fun e => { e with readyLine := false }) (joinedCut u arrived) (readyDown u arrived) s)

/-- READY_RISE (R56). -/
def execReadyRise (u : UnitNo) (s : State) : Host.Outcome State Fault Refusal :=
  .next (lineChange u (fun e => { e with readyLine := true }) id (readyUp u) s)

/-- STREAM_CHECKED (R13). -/
def execStreamChecked (d : Delivery) (noise : List ReadoutNoise) (s : State) :
    Host.Outcome State Fault Refusal :=
  .next (throughRelay noise (joinedStream d) (endStream d) s)

/-- WRITE_ANSWER (R38). -/
def execWriteAnswer (a : DriveAnswer) (s : State) : Host.Outcome State Fault Refusal :=
  .next (throughRelay [] (joinedAnswer a) (takeWriteAnswer a) s)

/-- REVOLUTION_END (R131). -/
def execRevolutionEnd (noise : List ReadoutNoise) (s : State) : Host.Outcome State Fault Refusal :=
  .next (whenOpen noise takeRevolutionEnd s)

end Sys2Proof.Machine
end

