-- ==== Sys2Proof/Machine/Holds.lean ====
section
/-! DEFINITION. INDEX marks and holds (Chapter 2): counting, the two expiries, and the commands INDEX_MARK,
WAIT_HOLD_EXPIRY and FAILURE_HOLD_EXPIRY. -/

namespace Sys2Proof.Machine

/-! ### What a mark does to a hold (R33 to R35) -/

/-- A mark withheld: the hold count and the held revolutions rise by 1 (R33). -/
def withholdMark (u : UnitNo) : State → State :=
  modUnit u fun e => { e with hold := e.hold.map fun h =>
    { h with count := h.count + 1, revs := saturate h.revs 1 } }

/-- A withheld mark that expires the hold: the held revolutions rise by 1 (R34, R35). -/
def countRevolution (u : UnitNo) : State → State :=
  modUnit u fun e => { e with hold := e.hold.map fun h => { h with revs := saturate h.revs 1 } }

/-- A mark let through at the expiry of a WAIT hold (R34). -/
def forwardMark (u : UnitNo) (s : State) : State :=
  emit (.index u) (modUnit u (fun e => { e with hold := e.hold.map fun h =>
    { h with count := 0, revs := saturate h.revs 1 } }) s)

/-- The first capture a track job has filed under the sector of the read held for it (R34, log 20). -/
def State.heldFirstFiled (s : State) (u : UnitNo) : Option SlotId :=
  match s.current, s.foregroundJob with
  | some op, some j =>
    if op.unit = u ∧ op.kind = .read .held ∧ j.kind = .track then (rowOf j op.sector).firstFiled
    else none
  | _, _ => none

/-- The expiry of a WAIT hold (R34). -/
def expireWait (u : UnitNo) (s : State) : State :=
  match s.heldFirstFiled u with
  | none => forwardMark u s
  | some i =>
    match readWhole i s with
    | (some words, s) => answerCurrent (.stream words) (countRevolution u s)
    | (none, s) => forwardMark u s

/-- The expiry of a FAILURE hold: the fallback answer (R35); the job becomes background and deferred
(R81). -/
def expireFailure (u : UnitNo) (s : State) : State :=
  let s := countRevolution u s
  match s.foregroundJob with
  | none => answerCurrent .noData s
  | some j => forwardCapture (fallbackCapture j) s

/-- The hold of unit `u` expires at the next mark (R33). -/
def State.expiryDue (s : State) (h : Hold) : Bool := s.holdLimit ≤ h.count + 1

def expireHold (k : HoldKind) (u : UnitNo) (s : State) : State :=
  match k with
  | .wait => expireWait u s
  | .failure => expireFailure u s

/-- An INDEX mark of unit `u` (R33). -/
def takeIndex (u : UnitNo) (s : State) : State :=
  match (s.unit u).hold with
  | none => emit (.index u) s
  | some h => if s.expiryDue h then expireHold h.kind u s else withholdMark u s

/-- The mark at which a hold of a kind expires; nothing happens where no such expiry is due (log 1). -/
def takeExpiry (k : HoldKind) (u : UnitNo) (s : State) : State :=
  match (s.unit u).hold with
  | some h => if h.kind = k ∧ s.expiryDue h then expireHold k u s else s
  | none => s

/-! ### The commands -/

/-- INDEX_MARK (R33). -/
def execIndexMark (u : UnitNo) (noise : List ReadoutNoise) (s : State) :
    Host.Outcome State Fault Refusal :=
  .next (throughRelay noise (emit (.index u)) (settleIfRetired (takeIndex u)) s)

/-- WAIT_HOLD_EXPIRY (R34). -/
def execWaitHoldExpiry (u : UnitNo) (noise : List ReadoutNoise) (s : State) :
    Host.Outcome State Fault Refusal :=
  .next (whenOpen noise (settleIfRetired (takeExpiry .wait u)) s)

/-- FAILURE_HOLD_EXPIRY (R35). -/
def execFailureHoldExpiry (u : UnitNo) (noise : List ReadoutNoise) (s : State) :
    Host.Outcome State Fault Refusal :=
  .next (whenOpen noise (settleIfRetired (takeExpiry .failure u)) s)

end Sys2Proof.Machine
end

