-- ==== Sys2Proof/Machine/Mergers.lean ====
section
/-! DEFINITION. The end of a merge as a command (R79, Chapter 7). -/

namespace Sys2Proof.Machine

/-- MERGE_VERDICT (R79): the merge of a sector job, or of one sector of a track job, ends. -/
def execMergeVerdict (job sector : Nat) (noise : List ReadoutNoise) (s : State) :
    Host.Outcome State Fault Refusal :=
  .next (whenOpen noise (writeVerdict job sector) s)

end Sys2Proof.Machine
end

