-- ==== Sys2Proof/Machine/Power.lean ====
section
/-! DEFINITION. Power and the bypass relays (R18). -/

namespace Sys2Proof.Machine

/-- A unit's power-on values; what its drive reports is not the unit's to reset. -/
def powerOnUnit (e : UnitEntry) : UnitEntry :=
  { UnitEntry.reset with
    readyLine := e.readyLine, faultLine := e.faultLine, onCylinderLine := e.onCylinderLine,
    seekFaultLine := e.seekFaultLine, protectedLine := e.protectedLine }

/-- The power-on values of every block, the lines joined (R18). Lines that were joined already carry on what
they carried; otherwise the operation in progress is cut off, and the lines address the drive last selected
(log 52). -/
def powerOnState (s : State) : State :=
  { State.reset with
    joinedUnit := if s.bypassOpen then s.selected else s.joinedUnit
    joinedOp := if s.bypassOpen then none else s.joinedOp
    units := s.units.map powerOnUnit
    pending := s.pending }

/-- READY as last seen takes each drive's line, and each unit that is up gets a margin item, in ascending
order of unit (R18, R20, R45, log 45). -/
def openBypass (s : State) : State :=
  ((indexes 4).filter fun u => (s.unit u).readyLine).foldl (fun s u => addMarginItem u s)
    { s with
      bypassOpen := true, joinedUnit := none
      units := s.units.map fun e => { e with ready := e.readyLine } }

/-- POWER_ON_RESET (R18). -/
def execPowerOnReset (s : State) : Host.Outcome State Fault Refusal := .next (powerOnState s)

/-- BYPASS_OPEN (R18): nothing without power, with the bypass open already (log 1), or while an operation is
in progress on the joined lines, for whose end the relay waits. -/
def execBypassOpen (s : State) : Host.Outcome State Fault Refusal :=
  .next (if s.powered && !s.bypassOpen && s.joinedOp.isNone then openBypass (beginCommand [] s)
    else beginCommand [] s)

/-- POWER_LOSS (R18): the relays close and all that the unit held is gone (log 14). -/
def execPowerLoss (s : State) : Host.Outcome State Fault Refusal :=
  .next { powerOnState s with powered := false }

end Sys2Proof.Machine
end

