-- ==== Sys2Proof/Machine/Dispatch.lean ====
section
/-! DEFINITION. One arm per command. -/

namespace Sys2Proof.Machine

def exec (i : Instr) (s : State) : Host.Outcome State Fault Refusal :=
  match i with
  | .powerOnReset => Sys2Proof.Machine.execPowerOnReset s
  | .bypassOpen => Sys2Proof.Machine.execBypassOpen s
  | .powerLoss => Sys2Proof.Machine.execPowerLoss s
  | .unitSelect u => Sys2Proof.Machine.execUnitSelect u s
  | .seek cyl => Sys2Proof.Machine.execSeek cyl s
  | .returnToZero => Sys2Proof.Machine.execReturnToZero s
  | .readSector head sector noise => Sys2Proof.Machine.execReadSector head sector noise s
  | .writeSector head sector data check => Sys2Proof.Machine.execWriteSector head sector data check s
  | .formatTrack head headers => Sys2Proof.Machine.execFormatTrack head headers s
  | .cableInitialize => Sys2Proof.Machine.execCableInitialize s
  | .indexMark u noise => Sys2Proof.Machine.execIndexMark u noise s
  | .waitHoldExpiry u noise => Sys2Proof.Machine.execWaitHoldExpiry u noise s
  | .failureHoldExpiry u noise => Sys2Proof.Machine.execFailureHoldExpiry u noise s
  | .grant noise => Sys2Proof.Machine.execGrant noise s
  | .seekEnd u noise => Sys2Proof.Machine.execSeekEnd u noise s
  | .seekFault u noise => Sys2Proof.Machine.execSeekFault u noise s
  | .driveFault u arrived => Sys2Proof.Machine.execDriveFault u arrived s
  | .returnToService u => Sys2Proof.Machine.execReturnToService u s
  | .readyFall u arrived => Sys2Proof.Machine.execReadyFall u arrived s
  | .readyRise u => Sys2Proof.Machine.execReadyRise u s
  | .streamChecked d noise => Sys2Proof.Machine.execStreamChecked d noise s
  | .writeAnswer a => Sys2Proof.Machine.execWriteAnswer a s
  | .revolutionEnd noise => Sys2Proof.Machine.execRevolutionEnd noise s
  | .mergeVerdict job sector noise => Sys2Proof.Machine.execMergeVerdict job sector noise s
  | .reportStatus tag => Sys2Proof.Machine.execReportStatus tag s
  | .loadGeometry tag unit present cylinders heads sectors plan retries escalation mode => Sys2Proof.Machine.execLoadGeometry tag unit present cylinders heads sectors plan retries escalation mode s
  | .loadPlan tag plan length steps => Sys2Proof.Machine.execLoadPlan tag plan length steps s
  | .setPolicy tag unit policy => Sys2Proof.Machine.execSetPolicy tag unit policy s
  | .setLimits tag q t h => Sys2Proof.Machine.execSetLimits tag q t h s
  | .recoverSector tag unit cyl head sector => Sys2Proof.Machine.execRecoverSector tag unit cyl head sector s
  | .recoverTrack tag unit cyl head revolutions => Sys2Proof.Machine.execRecoverTrack tag unit cyl head revolutions s
  | .cancelJob tag job => Sys2Proof.Machine.execCancelJob tag job s
  | .takeRecords tag count => Sys2Proof.Machine.execTakeRecords tag count s
  | .storeDirectory tag start => Sys2Proof.Machine.execStoreDirectory tag start s
  | .pinEntry tag unit cyl head sector => Sys2Proof.Machine.execPinEntry tag unit cyl head sector s
  | .unpinEntry tag unit cyl head sector => Sys2Proof.Machine.execUnpinEntry tag unit cyl head sector s
  | .dropEntry tag unit cyl head sector => Sys2Proof.Machine.execDropEntry tag unit cyl head sector s
  | .adoptEntries tag unit => Sys2Proof.Machine.execAdoptEntries tag unit s
  | .clear tag scope => Sys2Proof.Machine.execClear tag scope s
  | .requestRefused data check => Sys2Proof.Machine.execRequestRefused data check s

end Sys2Proof.Machine
end

