-- ==== Sys2Proof/Safety.lean ====
section
/-! DEFINITION. The terms statements use: the state in which an operation is taken, a request's answer, and
the conditions every step keeps. -/

namespace Sys2Proof.Machine

/-! ### Where an operation is taken -/

/-- The state in which a controller operation is taken: nothing driven yet, and an unanswered current
operation abandoned (R19). -/
def State.taken (s : State) (noise : List ReadoutNoise) : State := abandonCurrent (beginCommand noise s)

/-- A maintenance write has been taken: the response replaced as R168 lays down, the write answered. -/
def State.replied (a : State) (code tag outcome : Word) (results : List Word) : State :=
  { a with
    response := Table.ofList 256 0
      ([code, tag, outcome, 0, if a.readMark then 0 else 1] ++ results)
    readMark := false
    out := a.out ++ [.answer a.controllerUnit .writeDone]
    noise := [] }

/-- The unit's logic answers a command in `s` with `t`, its readouts made. -/
def State.answering (s : State) (e : Emission) : State := { s with out := s.out ++ [e], noise := [] }

/-- Commands with which the unit itself does nothing while the bypass relays join the faces (R18): all but
those of the power and the changes of a drive's READY and DRIVE FAULT lines. -/
def bypassed : Instr → Bool
  | .powerOnReset | .bypassOpen | .powerLoss | .driveFault _ _ | .returnToService _ | .readyFall _ _
  | .readyRise _ => false
  | .unitSelect _ | .seek _ | .returnToZero | .readSector _ _ _ | .writeSector _ _ _ _ | .formatTrack _ _
  | .cableInitialize | .indexMark _ _ | .waitHoldExpiry _ _ | .failureHoldExpiry _ _ | .grant _
  | .seekEnd _ _ | .seekFault _ _ | .streamChecked _ _ | .writeAnswer _ | .revolutionEnd _
  | .mergeVerdict _ _ _ | .reportStatus _ | .loadGeometry _ _ _ _ _ _ _ _ _ _ | .loadPlan _ _ _ _
  | .setPolicy _ _ _ | .setLimits _ _ _ _ | .recoverSector _ _ _ _ _ | .recoverTrack _ _ _ _ _
  | .cancelJob _ _ | .takeRecords _ _ | .storeDirectory _ _ | .pinEntry _ _ _ _ _
  | .unpinEntry _ _ _ _ _ | .dropEntry _ _ _ _ _ | .adoptEntries _ _ | .clear _ _
  | .requestRefused _ _ => true

/-- The drive's answer to a read as it gave it: its words, or NO DATA. -/
def sentAnswer (d : Delivery) : Answer :=
  match deliveredWords d with
  | some words => .stream words
  | none => .noData

/-- The drive's answer to a write or format. -/
def drivesAnswer : DriveAnswer → Answer
  | .writeDone => .writeDone
  | .writeProtected => .writeProtected

/-- Of those commands, the ones that stand for what passes the lines of the cable; the others are the unit's
own (logs 15, 52). -/
def onLines : Instr → Bool
  | .unitSelect _ | .seek _ | .returnToZero | .readSector _ _ _ | .writeSector _ _ _ _ | .formatTrack _ _
  | .cableInitialize | .indexMark _ _ | .seekEnd _ _ | .seekFault _ _ | .streamChecked _ _
  | .writeAnswer _ => true
  | _ => false

/-- What the joined lines pass for a command, while the bypass is closed (R18): each command and word of the
controller to the drive that the lines address, and what a drive raises, delivers or answers to the controller
(log 52). -/
def State.passing (s : State) (c : Instr) : List Emission :=
  match c with
  | .unitSelect u => [.driveSelect u]
  | .seek cyl => s.joinedUnit.toList.map fun u => .driveSeek u (.to cyl)
  | .returnToZero => s.joinedUnit.toList.map fun u => .driveSeek u .zero
  | .readSector head sector _ => s.joinedUnit.toList.map fun u => .driveOp u (.readSector head sector)
  | .writeSector head sector data check => s.joinedUnit.toList.flatMap fun u =>
      [.driveOp u (.writeSector head sector), .driveWords u (data ++ check.toList)]
  | .formatTrack head headers => s.joinedUnit.toList.flatMap fun u =>
      [.driveOp u (.formatTrack head), .driveWords u headers]
  | .cableInitialize => [.driveInitialize]
  | .indexMark u _ => [.index u]
  | .seekEnd u _ => [.seekEnd u]
  | .streamChecked d _ =>
    match s.joinedOp with
    | some (u, .readSector _ _) => [.answer u (sentAnswer d)]
    | _ => []
  | .writeAnswer x =>
    match s.joinedOp with
    | some (u, .writeSector _ _) | some (u, .formatTrack _) => [.answer u (drivesAnswer x)]
    | _ => []
  | _ => []

/-- A command of the power supply. -/
def ofPower : Instr → Bool
  | .powerOnReset => true
  | .powerLoss => true
  | _ => false

/-! ### Requests as maintenance writes (R168, 11.4) -/

/-- The code, tag and argument words that a request command stands for. -/
def requestOf : Instr → Option (Word × Word × List Word)
  | .reportStatus tag => some (1, tag, [])
  | .loadGeometry tag unit present cylinders heads sectors plan retries escalation mode =>
    some (2, tag, [unit, present, cylinders, heads, sectors, plan, retries, escalation, mode])
  | .loadPlan tag plan length steps => some (3, tag, [plan, length] ++ steps.flatMap stepArguments)
  | .setPolicy tag unit policy => some (4, tag, [unit, policy])
  | .setLimits tag q t h => some (5, tag, [q, t, h])
  | .recoverSector tag unit cyl head sector => some (6, tag, [unit, cyl, head, sector])
  | .recoverTrack tag unit cyl head revolutions => some (7, tag, [unit, cyl, head, revolutions])
  | .cancelJob tag job => some (8, tag, [job])
  | .takeRecords tag count => some (9, tag, [count])
  | .storeDirectory tag start => some (10, tag, [start])
  | .pinEntry tag unit cyl head sector => some (11, tag, [unit, cyl, head, sector])
  | .unpinEntry tag unit cyl head sector => some (12, tag, [unit, cyl, head, sector])
  | .dropEntry tag unit cyl head sector => some (13, tag, [unit, cyl, head, sector])
  | .adoptEntries tag unit => some (14, tag, [unit])
  | .clear tag scope => some (15, tag, [scope])
  | _ => none

/-- The 256 data words of a request: code, marker, tag, arguments, and 0000 to the end. -/
def requestData (code tag : Word) (args : List Word) : List Word :=
  ([code, 0o7777 - code, tag] ++ args ++ List.replicate 256 0).take 256

/-- The step that LOAD PLAN's five words give, their codes within range: its strobe, offset and reposition by
code, its attempts and credit brought to 1 to 4 and 1 to 7 (R173, 11.4). -/
def givenStep (w : StepWords) : PlanStep :=
  { strobe := if w.strobe = 0 then .normal else if w.strobe = 1 then .early else .late
    offset := if w.offset = 0 then .centre else if w.offset = 1 then .forward else .reverse
    reposition := if w.reposition = 0 then .none else if w.reposition = 1 then .reseek else .zero
    attempts := max 1 (min 4 w.attempts.toNat)
    credit := max 1 (min 7 w.credit.toNat) }

/-- Step `k` of LOAD PLAN's arguments, counted from 0; a step whose words were not written is five words of
0000. -/
def stepWordsAt (steps : List StepWords) (k : Nat) : StepWords := steps.getD k ⟨0, 0, 0, 0, 0⟩

/-! ### What the arbiter asks of a request (R28, R45 to R47, R77, R95), in the state's own terms -/

/-- The relay claims unit `u`: an operation of the controller for its drive has been taken and is not yet on
the cable (R28). A write in receipt and a read that waits for a job claim nothing. -/
def State.unitClaimed (s : State) (u : UnitNo) : Bool :=
  match s.current with
  | none => false
  | some op => decide (op.unit = u) && !op.issued && match op.kind with
    | .read .held | .receiving _ => false
    | .read _ | .write _ _ | .format _ => true

/-- The job has a request presented: it is QUEUED, POSITIONING or AWAITING (R77). -/
def Job.asks (j : Job) : Bool :=
  decide (j.state = .queued ∨ j.state = .positioning ∨ j.state = .awaiting)

/-- The job waits for the SEEK END of a seek of its own (R77). -/
def State.seeksOwn (s : State) (j : Job) : Bool :=
  (s.unit j.unit).motion.any fun m => decide (m.issuer = .job j.number) && !m.givenUp

/-- The job has not taken the slots of its read, one or one for each sector of its track (R64). -/
def Job.slotsMissing (j : Job) : Bool :=
  decide (j.filling.length < match j.kind with
    | .sector => 1
    | .track => j.rows.length)

/-- The step a job reads under: a sector job's of its step index, a track job's of its revolution to come
(R94, R126). Outside the plan, which no run comes to, it is a step of NORMAL and CENTRE with no action. -/
def State.planStep (s : State) (j : Job) : PlanStep :=
  ((s.plans.get j.plan)[match j.kind with
    | .sector => j.stepIndex - 1
    | .track => j.revsDone % (s.plans.get j.plan).length]?).getD ⟨.normal, .centre, .none, 1, 1⟩

/-- The reposition action due under step `x` (R96, R99, R126). One that the attempt has made is not made again
(log 59). -/
def Job.actionDue (j : Job) (x : PlanStep) : Reposition :=
  if j.actionDone then .none
  else match j.kind with
    | .track => if j.trackReseek then .zero else x.reposition
    | .sector =>
      if (j.attempt = 1 ∨ j.repositionNeeded = true) ∧ x.reposition ≠ .none then x.reposition
      else if j.headerMark = .due then .reseek else .none

/-- The job has a positioning command to send: of its own seek's retry while that is due, otherwise the
action, the seek, the strobe or the offset of R95. -/
def State.commandDue (s : State) (j : Job) : Bool :=
  match (s.unit j.unit).recovery.filter fun r => r.issuer = .job j.number with
  | some r => decide (r.phase = .homeDue ∨ r.phase = .seekDue)
  | none => decide (j.actionDue (s.planStep j) ≠ .none ∨ (s.unit j.unit).driveCyl ≠ some j.cyl ∨
      (s.unit j.unit).strobe ≠ some (s.planStep j).strobe ∨
      (s.unit j.unit).offset ≠ some (s.planStep j).offset)

/-- A relay item is eligible (R45): its unit stands still, and its command is still to be sent: a margin item
always, a seek before it is issued and when its retry is due, an operation while it claims its unit. -/
def State.itemMayGo (s : State) : Item → Bool
  | .margin u => (s.unit u).motion.isNone
  | .seek u _ issued => (s.unit u).motion.isNone &&
      (!issued || (s.unit u).recovery.any fun r => decide (r.issuer = .controller))
  | .operation u => (s.unit u).motion.isNone && s.unitClaimed u

/-- A job's request is eligible while the cable is free (R46): it is presented, its unit's READY is up and no
DRIVE FAULT shows, the unit stands still and is not claimed, its positioning owner is none, this job, or
whoever it is for the foreground job, and the read of a job in AWAITING has its slots and its cylinder. -/
def State.jobMayGo (s : State) (j : Job) : Bool :=
  j.asks && !s.seeksOwn j && (s.unit j.unit).ready && !(s.unit j.unit).faultLine &&
    (s.unit j.unit).motion.isNone && !s.unitClaimed j.unit &&
    decide ((s.unit j.unit).owner = none ∨ (s.unit j.unit).owner = some j.number ∨ j.foreground = true) &&
    if j.state = .awaiting then !j.slotsMissing && decide ((s.unit j.unit).driveCyl = some j.cyl)
    else s.commandDue j

/-- A background job's class in the grant order (R47). -/
def Job.grantClass (j : Job) : Nat :=
  if j.kind = .track then 1 else if j.origin = .request then 2 else 3

/-- The key of `j` is not above that of `k`: class, then unit, then job number (R47). -/
def Job.notAfter (j k : Job) : Prop :=
  j.grantClass < k.grantClass ∨ j.grantClass = k.grantClass ∧
    (j.unit < k.unit ∨ j.unit = k.unit ∧ j.number ≤ k.number)

/-! ### What every step keeps -/

/-- The store as R139 has it: at most 64 entries, no two of one key, hit counts in range, and the damaged flag
on redirected entries only. -/
def State.StoreSound (s : State) : Prop :=
  s.store.length ≤ 64 ∧ (s.store.map Entry.key).Nodup ∧
    ∀ e ∈ s.store, e.hits ≤ 4095 ∧ (e.damaged = true → e.origin = .redirectedWrite)

/-- The record queue as R155 has it. -/
def State.RecordsSound (s : State) : Prop := s.records.length ≤ 128

def Counters.InRange (c : Counters) : Prop :=
  c.reads ≤ 4095 ∧ c.failures ≤ 4095 ∧ c.recovered ≤ 4095 ∧ c.unrecovered ≤ 4095 ∧ c.storeHits ≤ 4095 ∧
    c.writesBlocked ≤ 4095 ∧ c.writesRedirected ≤ 4095 ∧ c.writesSuperseding ≤ 4095 ∧ c.fallbacks ≤ 4095

def Geometry.InRange (g : Geometry) : Prop :=
  1 ≤ g.cylinders ∧ g.cylinders ≤ 1000 ∧ 1 ≤ g.heads ∧ g.heads ≤ 16 ∧ 8 ≤ g.sectors ∧ g.sectors ≤ 24 ∧
    g.retryLimit ≤ 3 ∧ g.escalation ≤ 8

def Hold.InRange (h : Hold) : Prop := h.count ≤ 64 ∧ h.revs ≤ 4095

/-- A unit's counters, geometry, hold and off-track count in the ranges of R163, R172, R20 and R91. -/
def UnitEntry.InRange (e : UnitEntry) : Prop :=
  e.counters.InRange ∧ e.geometry.InRange ∧ (∀ h ∈ e.hold, h.InRange) ∧ e.offTrack ≤ 8

def PlanStep.InRange (x : PlanStep) : Prop :=
  1 ≤ x.attempts ∧ x.attempts ≤ 4 ∧ 1 ≤ x.credit ∧ x.credit ≤ 7

/-- Settings, plans, units and parity counts in the ranges the manual gives them (R20, R59, R91, R93, R106,
R163, R172). -/
def State.InRange (s : State) : Prop :=
  1 ≤ s.q ∧ s.q ≤ 56 ∧ s.t ≤ 4 ∧ 1 ≤ s.holdLimit ∧ s.holdLimit ≤ 64 ∧
    (∀ u, (s.unit u).InRange) ∧
    (∀ p, 1 ≤ (s.plans.get p).length ∧ (s.plans.get p).length ≤ 12 ∧
      ∀ x ∈ s.plans.get p, x.InRange) ∧
    ∀ b, (s.banks.get b).parity ≤ 16

/-- The job numbers as R73 has them: 1 to 255, no two jobs with one number. -/
def State.NumbersSound (s : State) : Prop :=
  1 ≤ s.nextJob ∧ s.nextJob ≤ 255 ∧ (s.jobList.map Job.number).Nodup ∧
    ∀ j ∈ s.jobList, 1 ≤ j.number ∧ j.number ≤ 255

/-- The job table as R72 has it: one sector job to an address, one track job to a track, and no sector job on
a track that has a track job. -/
def State.OwnersSound (s : State) : Prop :=
  ∀ j ∈ s.jobList, ∀ k ∈ s.jobList, j.unit = k.unit → j.cyl = k.cyl → j.head = k.head →
    (j.kind = .sector → k.kind = .sector → j.sector = k.sector → j.number = k.number) ∧
      (j.kind = .track → k.kind = .track ∧ j.number = k.number)

/-! The relay's part of the state hangs together: holds, foreground, cable and its own seeks. -/

/-- The operation is a read that waits for a job (R30, R32). -/
def ControllerOp.isHeld (op : ControllerOp) : Bool := op.kind = .read .held

/-- The operation waits for the cable, or for the drive to be brought to it (R28). -/
def ControllerOp.waits (op : ControllerOp) : Bool := !op.issued && !op.isHeld

def Grant.ofRelay (g : Grant) : Bool :=
  match g.holder with
  | .relay _ => true
  | .job _ => false

def CableOp.isRead : CableOp → Bool
  | .readSector _ _ | .readTrack _ => true
  | .writeSector _ _ | .formatTrack _ => false

/-- A hold is the current operation's, and a FAILURE hold that of a read which waits for a job (R30, R33). -/
def State.HoldsSound (s : State) : Prop :=
  ∀ u, ∀ h ∈ (s.unit u).hold, ∃ op ∈ s.current, op.unit = u ∧ (h.kind = .failure → op.isHeld = true)

/-- At most one job is foreground, and only while a read waits for a job (R80). -/
def State.ForegroundSound (s : State) : Prop :=
  ∀ j ∈ s.jobList, j.foreground = true →
    (∃ op ∈ s.current, op.isHeld = true) ∧ ∀ k ∈ s.jobList, k.foreground = true → k.number = j.number

/-- The relay holds the grant for the current operation, unless that has been abandoned, and never for a read
that waits for a job; jobs hold it for reads alone (R19, R32, R43). -/
def State.CableSound (s : State) : Prop :=
  (∀ g ∈ s.grant, g.holder ≠ .relay .held ∧ (g.ofRelay = true → g.abandoned = false →
      ∃ op ∈ s.current, op.unit = g.unit ∧ op.issued = true) ∧
    (g.ofRelay = false → g.op.isRead = true)) ∧
  ∀ op ∈ s.current, op.issued = true → op.isHeld = false ∧ receivingWrite op = false ∧
    ∃ g ∈ s.grant, g.ofRelay = true ∧ g.abandoned = false ∧ g.unit = op.unit

/-- A seek of the relay's own, and its retries, are for a current operation that waits; a recovery record goes
with its issuer's motion, or has a command due while there is none (R28, R51). -/
def State.SeeksSound (s : State) : Prop :=
  ∀ u, (∀ m ∈ (s.unit u).motion, m.issuer = .relay → m.givenUp = false →
      ∃ op ∈ s.current, op.unit = u ∧ op.waits = true) ∧
    ∀ r ∈ (s.unit u).recovery,
      (r.issuer = .relay → ∃ op ∈ s.current, op.unit = u ∧ op.waits = true) ∧
      ((s.unit u).motion = none ↔ r.phase = .homeDue ∨ r.phase = .seekDue) ∧
      ∀ m ∈ (s.unit u).motion, m.issuer = r.issuer ∧ m.givenUp = false

def State.RelaySound (s : State) : Prop :=
  s.HoldsSound ∧ s.ForegroundSound ∧ s.CableSound ∧ s.SeeksSound

/-! Capture memory and the job table agree on who has which slot. -/

/-- The captures of a job, those of its sector table among them. -/
def Job.captures (j : Job) : List SlotId := j.list ++ j.rows.flatMap SectorRow.list

/-- A slot is FILLING for an owner. -/
def State.fills (s : State) (o : SlotOwner) (i : SlotId) : Prop :=
  (s.slot i).state = .filling ∧ (s.slot i).owner = some o

/-- The slots that the grant is still to fill belong to its holder, a job of the table that is CAPTURING; an
abandoned read of a job has none any more (R14, R63, R64, R77). -/
def State.GrantFills (s : State) : Prop :=
  ∀ g ∈ s.grant, match g.holder with
    | .relay _ => g.slots.Nodup ∧ ∀ i ∈ g.slots, s.fills .relay i
    | .job n => g.abandoned = false → (g.slots.drop g.nextMark).Nodup ∧
        (∀ i ∈ g.slots.drop g.nextMark, s.fills (.job n) i) ∧
        ∃ j ∈ s.jobList, j.number = n ∧ j.state = .capturing ∧ j.filling = []

/-- Every slot in use has one owner, which is the relay or a job of the table, and one place (R57, R58, R60,
R82). -/
def State.SlotsSound (s : State) : Prop :=
  (∀ i, ((s.slot i).owner = none ↔ (s.slot i).state = .free ∨ (s.slot i).state = .retired) ∧
    ∀ n, (s.slot i).owner = some (.job n) → ∃ j ∈ s.jobList, j.number = n) ∧
  (∀ j ∈ s.jobList, j.filling.Nodup ∧ (∀ i ∈ j.filling, s.fills (.job j.number) i) ∧
    j.captures.Nodup ∧
    ∀ i ∈ j.captures, (s.slot i).state = .held ∧ (s.slot i).owner = some (.job j.number)) ∧
  s.GrantFills ∧
  ∀ op ∈ s.current, op.issued = false → ∀ i ∈ op.slot, s.fills .relay i ∧
    ∀ g ∈ s.grant, g.ofRelay = true → i ∉ g.slots

/-- Reservations as R60, R69 and R70 have them: no job holds more than its reservation, every claim is backed
by a FREE slot, and nothing is available while a job is shortened. -/
def State.ReservationsSound (s : State) : Prop :=
  (∀ j ∈ s.jobList, s.holding j.number ≤ j.reservation ∧ j.reservation ≤ j.granted) ∧
    s.totalReserved ≤ s.freeCount ∧ (s.anyShortened = true → s.available = 0)

/-- Merges as R77, R79 and R102 have them: a job has one outstanding only in MERGING, and a sector job, which
has no sector table, only for its own sector. -/
def State.MergesSound (s : State) : Prop :=
  ∀ j ∈ s.jobList, (j.merges ≠ [] → j.state = .merging) ∧
    (j.kind = .sector → j.rows = [] ∧ ∀ m ∈ j.merges, m.sector = j.sector)

/-- The banks as R58, R67 and R69 have them: RETIRED slots only in a retired bank, no FREE slot there. -/
def State.BanksSound (s : State) : Prop :=
  ∀ i : SlotId,
    ((s.slot i).state = .retired → s.bankRetired (bankOf i) = true) ∧
      (s.bankRetired (bankOf i) = true → (s.slot i).state ≠ .free)

/-- What comes in `b` of the capture offered in `s` to sector job `j`, which stands as `x` in `b`; `slots` is
the relay's slot, none after a fallback, `kept` that a capture is in it, `pinned` that it becomes the original
when it is taken (R66, R67, R74, R84). It is taken while the claim allows, or where the capture that R83 would
release has a credit below 3 and its release gives a claim back; a release into a retired bank with nothing
available gives none. Otherwise the relay has its slot no more and the list is unchanged. -/
def CaptureOffered (s b : State) (j x : Job) (slots : List SlotId) (kept pinned : Bool) : Prop :=
  (kept = true → 1 ≤ s.claim j → x.list = j.list ++ slots ∧ x.pin = (if pinned then slots.head? else j.pin) ∧
    ∀ i ∈ slots, (b.slot i).owner = some (.job j.number) ∧ (b.slot i).credit = some 3) ∧
  (∀ c, kept = true → slots ≠ [] → s.claim j = 0 → j.state ≠ .merging → s.releaseChoice j = some c →
    (s.slot c).credit.getD 0 < 3 → (s.slot c).owner = some (.job j.number) → c ∉ slots →
    s.holding j.number ≤ j.reservation →
    (b.slot c).owner = none ∧
    (s.bankRetired (bankOf c) = false ∨ 0 < s.available →
      x.list = (j.list.filter fun i => i ≠ c) ++ slots ∧
      x.pin = (if pinned then slots.head? else j.pin) ∧
      ∀ i ∈ slots, (b.slot i).owner = some (.job j.number) ∧ (b.slot i).credit = some 3) ∧
    (s.bankRetired (bankOf c) = true → s.available = 0 →
      x.list = (j.list.filter fun i => i ≠ c) ∧ x.pin = j.pin ∧
      ∀ i ∈ slots, (b.slot i).owner ≠ some .relay)) ∧
  (kept = false ∨ slots = [] ∨ s.claim j = 0 ∧ (j.state = .merging ∨
      ∀ c, s.releaseChoice j = some c → 3 ≤ (s.slot c).credit.getD 0) →
    x.list = j.list ∧ x.pin = j.pin ∧ ∀ i ∈ slots, (b.slot i).owner ≠ some .relay)

/-- Slot `x` when the capture of stream `d` stands in it, filed under address `a`, with the check unit's
findings: its words with their parity, HELD, and the descriptor fields of R12 (R7, R12, R57, R65). -/
def Slot.captured (x : Slot) (a : Addr) (d : Delivery) (f : Finding) : Slot :=
  { x with
    state := .held, words := ((deliveredWords d).getD []).map storeWord, addr := some a,
    outcome := some f.outcome, dropout := f.dropout, received := f.received, headerBad := f.headerBad,
    sums := f.sums }

/-- Sector job `j` of `s` has ended CLEAN in `b` with these data words: it has left the table, RECOVERED and
JOB_ENDED tell of it, a record is there while the queue has room, and the store has the data, while it has
room for them and no redirected entry stands in their place (R85, R87, R143, R144, R156, R166). -/
def EndedClean (s b : State) (j : Job) (data : List Word) : Prop :=
  b.job j.number = none ∧ b.notices.jobEnded = true ∧
    (b.unit j.unit).counters.recovered = min 4095 ((s.unit j.unit).counters.recovered + 1) ∧
    (s.records.length < 128 → ∃ r : SectorRecord, .sector r ∈ b.records ∧ r.job = j.number ∧
      r.result = .clean) ∧
    ((s.store.length < 64 ∨ ∃ e ∈ s.store, e.key = ⟨j.unit, j.cyl, j.head, j.sector⟩) →
      (∀ e ∈ s.store, e.key = ⟨j.unit, j.cyl, j.head, j.sector⟩ → e.origin ≠ .redirectedWrite) →
      ∃ e ∈ b.store, e.key = ⟨j.unit, j.cyl, j.head, j.sector⟩ ∧ e.origin = .cleanMajority ∧
        e.data = data.map storeWord ∧ e.check = storeWord (wordSum data) ∧ e.hits = 0 ∧
        e.damaged = false ∧ e.generation = (s.unit j.unit).generation)

/-- The motion that a seek command to a drive begins (R22, R50). -/
def seekMotion (i : Issuer) (c : SeekCmd) (forAction : Bool) : Motion :=
  { issuer := i, home := c = .zero, givenUp := false, silent := false, forAction := forAction
    target := match c with
      | .to k => k
      | .zero => 0 }

/-- The command `c` of a retry is due, and its grant makes the recovery record `next`: RETURN TO ZERO, which
counts the retry, or the repeated SEEK (R51). -/
def Recovery.granted (r : Recovery) (c : SeekCmd) (next : Recovery) : Prop :=
  r.phase = .homeDue ∧ c = .zero ∧ next = { r with used := r.used + 1, phase := .homeMoving } ∨
    r.phase = .seekDue ∧ c = .to r.target ∧ next = { r with phase := .seekMoving }

/-- Job `j` has been told that another has moved or taken its unit, and stands as `x`: reposition-needed but
in QUEUED, where it has positioned nothing yet, and back in QUEUED from POSITIONING and AWAITING (R48,
R78). -/
def Job.toldMoved (j x : Job) : Prop :=
  (j.state = .queued → x.state = .queued ∧ x.repositionNeeded = j.repositionNeeded) ∧
    (j.state = .positioning ∨ j.state = .awaiting → x.state = .queued ∧ x.repositionNeeded = true) ∧
    (j.state = .capturing ∨ j.state = .merging → x.state = j.state ∧ x.repositionNeeded = true)

/-- A write or format of the controller, one that is to go to a drive. -/
def OpKind.toDrive : OpKind → Bool
  | .write _ _ => true
  | .format _ => true
  | .read _ => false
  | .receiving _ => false

/-- A write or format that waits for the cable is on a unit whose policy is PASS (R38, R39, R41). -/
def State.WritesSound (s : State) : Prop :=
  ∀ op, s.current = some op → op.kind.toDrive = true → op.issued = false →
    (s.unit op.unit).policy = .pass

/-- While a unit's policy is PASS the store holds no redirected entry of it (R149). -/
def State.RedirectsSound (s : State) : Prop :=
  ∀ e ∈ s.store, e.origin = .redirectedWrite → (s.unit e.key.unit).policy ≠ .pass

/-- The commands by which DROP ENTRY can be made in `s` (R181): the request, or the maintenance write that
holds it, which is a write of sector 0 on the maintenance cylinder (R26). -/
def dropRequest (s : State) : Instr → Bool
  | .dropEntry _ _ _ _ _ => true
  | .writeSector _ sector data _ =>
    (s.unit s.controllerUnit).controllerCyl = some 1023 && sector = 0 && data.getD 0 0 = 13
  | .requestRefused data _ => data.getD 0 0 = 13
  | _ => false

end Sys2Proof.Machine
end

