-- ==== Sys2Proof/WellFormed.lean ====
section
/-! DEFINITION. The commands whose operands can occur (log 40). `exec` takes every command, well-formed or
not. -/

namespace Sys2Proof

/-- Head and sector are parts of one head–sector word (R2). -/
def addressable (head sector : Nat) : Bool := head < 128 && sector < 32

/-- The words of a readout are numbered 0 to 259 (R1). -/
def noiseWellFormed (noise : List ReadoutNoise) : Bool := noise.all fun r => r.all fun p => p.1 < 260

def Delivery.wellFormed : Delivery → Bool
  | .complete words => words.length = 260
  | .noData => true
  | .clockLost firstBad words => firstBad < 260 && words.length = 260

/-- The operands are such as the agents outside can send. -/
def Instr.wellFormed : Instr → Bool
  | .powerOnReset => true
  | .bypassOpen => true
  | .powerLoss => true
  | .unitSelect _ => true
  | .seek cyl => cyl ≤ 1023
  | .returnToZero => true
  | .readSector head sector noise => addressable head sector && noiseWellFormed noise
  | .writeSector head sector data check =>
    addressable head sector && data.length ≤ 256 && (check.isNone || data.length = 256)
  | .formatTrack head headers => addressable head 0 && headers.length ≤ 96
  | .cableInitialize => true
  | .indexMark _ noise => noiseWellFormed noise
  | .waitHoldExpiry _ noise => noiseWellFormed noise
  | .failureHoldExpiry _ noise => noiseWellFormed noise
  | .grant noise => noiseWellFormed noise
  | .seekEnd _ noise => noiseWellFormed noise
  | .seekFault _ noise => noiseWellFormed noise
  | .driveFault _ arrived => arrived.length < 260
  | .returnToService _ => true
  | .readyFall _ arrived => arrived.length < 260
  | .readyRise _ => true
  | .streamChecked d noise => d.wellFormed && noiseWellFormed noise
  | .writeAnswer _ => true
  | .revolutionEnd noise => noiseWellFormed noise
  | .mergeVerdict job sector noise =>
    1 ≤ job && job ≤ 255 && sector < 24 && noiseWellFormed noise
  | .reportStatus _ => true
  | .loadGeometry _ _ _ _ _ _ _ _ _ _ => true
  | .loadPlan _ _ _ steps => steps.length ≤ 50
  | .setPolicy _ _ _ => true
  | .setLimits _ _ _ _ => true
  | .recoverSector _ _ _ _ _ => true
  | .recoverTrack _ _ _ _ _ => true
  | .cancelJob _ _ => true
  | .takeRecords _ _ => true
  | .storeDirectory _ _ => true
  | .pinEntry _ _ _ _ _ => true
  | .unpinEntry _ _ _ _ _ => true
  | .dropEntry _ _ _ _ _ => true
  | .adoptEntries _ _ => true
  | .clear _ _ => true
  | .requestRefused data _ => data.length = 256

end Sys2Proof
end

