-- ==== Sys2Proof/Certificates/Slice0/Obligations.lean ====
section
/-! DEFINITION. The statements for the provers. In each, `a` is the state in which a controller operation is
taken: an unanswered operation has been abandoned (R19). -/

open Sys2Proof Sys2Proof.Machine

/-! ### The machine -/

/-- A step runs the command at the front of the queue on the state with the queue's rest; with nothing waiting
the block idles (the model's choice, log 2). -/
def Obligations.StepRunsFrontCommand : Prop :=
  ∀ s : State,
    (s.pending = [] → step s = .next s) ∧
    ∀ (c : Instr) (rest : List Instr), s.pending = c :: rest → step s = exec c { s with pending := rest }

/-- R18: while the bypass is closed the unit does nothing with a request, a grant or an event of its own;
the joined lines pass each command, word and answer, and the controller face shows what the drives report. A
drive's ON CYLINDER and SEEK FAULT lines change by its own reports and by a seek that passes to it, and by
nothing else; a drive that stops breaks off its operation. What the lines address and carry is the model's
choice (logs 52, 53), and so is that DRIVE FAULT, its clearing, and a fall and a rise of READY then change
the drive's line alone, with no notice, no generation and READY as last seen as it was (log 5). -/
def Obligations.ClosedBypassKeepsEverything : Prop :=
  ∀ (c : Instr) (s : State), s.bypassOpen = false →
    (∀ u, s.presented u = { ready := (s.unit u).readyLine, onCylinder := (s.unit u).onCylinderLine,
                            seekFault := (s.unit u).seekFaultLine, driveFault := (s.unit u).faultLine,
                            writeProtected := (s.unit u).protectedLine }) ∧
    (bypassed c = true → onLines c = false → exec c s = .next { s with out := [], noise := [] }) ∧
    (onLines c = true → ∃ t : State, exec c s = .next t ∧
      t = { s with
        units := t.units, joinedUnit := t.joinedUnit, joinedOp := t.joinedOp
        out := s.passing c, noise := [] } ∧
      (∀ u, t.unit u = { s.unit u with
        onCylinderLine := (t.unit u).onCylinderLine, seekFaultLine := (t.unit u).seekFaultLine }) ∧
      (∀ u noise, (c = .seekEnd u noise → (t.unit u).onCylinderLine = true) ∧
        (c = .seekFault u noise → (t.unit u).seekFaultLine = true)) ∧
      (∀ u cmd, .driveSeek u cmd ∈ t.out →
        (t.unit u).onCylinderLine = false ∧ (t.unit u).seekFaultLine = false) ∧
      (∀ u, (∀ cmd, .driveSeek u cmd ∉ t.out) →
        ((∀ noise, c ≠ .seekEnd u noise) → (t.unit u).onCylinderLine = (s.unit u).onCylinderLine) ∧
        ((∀ noise, c ≠ .seekFault u noise) → (t.unit u).seekFaultLine = (s.unit u).seekFaultLine)) ∧
      (∀ u, .driveSelect u ∈ t.out → t.joinedUnit = some u) ∧
      ((∀ u, .driveSelect u ∉ t.out) → t.joinedUnit = s.joinedUnit) ∧
      (∀ u op, .driveOp u op ∈ t.out → t.joinedOp = some (u, op)) ∧
      ((∃ u x, .answer u x ∈ t.out) ∨ c = .cableInitialize → t.joinedOp = none) ∧
      ((∀ u op, .driveOp u op ∉ t.out) → (∀ u x, .answer u x ∉ t.out) → c ≠ .cableInitialize →
        t.joinedOp = s.joinedOp)) ∧
    ∀ (u : UnitNo) (arrived : List Word),
      (c = .returnToService u → exec c s = .next { s with
        units := s.units.set u { s.unit u with faultLine := false }, out := [], noise := [] }) ∧
      (c = .readyRise u → exec c s = .next { s with
        units := s.units.set u { s.unit u with readyLine := true }, out := [], noise := [] }) ∧
      (c = .driveFault u arrived ∨ c = .readyFall u arrived → ∃ t : State, exec c s = .next t ∧
        t = { s with units := t.units, joinedOp := t.joinedOp, out := t.out, noise := [] } ∧
        (c = .driveFault u arrived → t.units = s.units.set u { s.unit u with faultLine := true }) ∧
        (c = .readyFall u arrived → t.units = s.units.set u { s.unit u with readyLine := false }) ∧
        t.joinedOp = (if s.joinedOp.map Prod.fst = some u then none else s.joinedOp))

/-- R18 and the power-on values of R20, R44, R57 to R59, R71, R73, R93, R106, R139, R147, R155, R163, R167,
R170, R172. Where the manual gives no value this states the model's choice: the drives' lines are not reset
(logs 4, 53), READY as last seen is down until the bypass opens (log 5), the slots hold no words (log 6), and
what the joined lines carry (log 52). -/
def Obligations.PowerOnReset : Prop :=
  ∀ s : State, ∃ t : State, exec .powerOnReset s = .next t ∧
    t = { State.reset with
      units := t.units, joinedUnit := t.joinedUnit, joinedOp := t.joinedOp, pending := s.pending } ∧
    (∀ u, t.unit u = { UnitEntry.reset with
      readyLine := (s.unit u).readyLine, faultLine := (s.unit u).faultLine
      onCylinderLine := (s.unit u).onCylinderLine, seekFaultLine := (s.unit u).seekFaultLine
      protectedLine := (s.unit u).protectedLine }) ∧
    t.joinedUnit = (if s.bypassOpen then s.selected else s.joinedUnit) ∧
    t.joinedOp = (if s.bypassOpen then none else s.joinedOp) ∧
    t.bypassOpen = false ∧ t.controllerUnit = 0 ∧ t.holdLimit = 6 ∧ t.q = 5 ∧ t.t = 2 ∧ t.nextJob = 1 ∧
    t.current = none ∧ t.grant = none ∧ t.selected = none ∧ t.items = [] ∧
    (∀ i, t.slot i = Slot.free) ∧ (∀ b, t.banks.get b = ⟨0, false⟩) ∧ (∀ e, t.jobs.get e = none) ∧
    (∀ p, t.plans.get p = defaultPlan) ∧ t.store = [] ∧ t.storeFull = false ∧ t.records = [] ∧
    t.gapPending = false ∧ (∀ k, t.response.get k = 0) ∧ t.readMark = true ∧
    t.notices = ⟨false, false, false, false⟩

/-- R18: the relays close at once, and an operation in progress at either face is cut off. That all the unit
holds takes its power-on values is the model's choice (log 14), and so is that the drives' lines stay as the
drives have them (logs 4, 53); that the store is lost is R139. -/
def Obligations.PowerLossClosesTheRelays : Prop :=
  ∀ s : State, ∃ t : State, exec .powerLoss s = .next t ∧ t.powered = false ∧ t.bypassOpen = false ∧
    t.grant = none ∧ t.current = none ∧ (s.bypassOpen = true → t.joinedOp = none) ∧
    t.store = [] ∧ t.records = [] ∧ t.jobList = [] ∧
    t.pending = s.pending ∧ ∀ u, (t.unit u).readyLine = (s.unit u).readyLine ∧
      (t.unit u).faultLine = (s.unit u).faultLine ∧
      (t.unit u).onCylinderLine = (s.unit u).onCylinderLine ∧
      (t.unit u).seekFaultLine = (s.unit u).seekFaultLine ∧
      (t.unit u).protectedLine = (s.unit u).protectedLine

/-- R18, R20, R21, R45: the bypass does not open while an operation is in progress on the joined lines. At
its opening READY as last seen takes each drive's line, exactly the units whose READY is up gain a margin
item, in ascending order of unit (log 45), and from then the face shows ON CYLINDER and SEEK FAULT by the
unit table. -/
def Obligations.BypassOpens : Prop :=
  ∀ s : State, s.powered = true → s.bypassOpen = false →
    (s.joinedOp ≠ none → exec .bypassOpen s = .next { s with out := [], noise := [] }) ∧
    (s.joinedOp = none → ∃ t : State, exec .bypassOpen s = .next t ∧
      t = { s with
        bypassOpen := true, joinedUnit := none, units := t.units, items := t.items, out := [], noise := [] } ∧
      (∀ u, t.unit u = { s.unit u with ready := (s.unit u).readyLine }) ∧
      (∀ i, i ∈ t.items ↔ i ∈ s.items ∨ ∃ u, i = .margin u ∧ (s.unit u).readyLine = true) ∧
      (s.items = [] →
        t.items = ((indexes 4).filter fun u => (s.unit u).readyLine).map Item.margin) ∧
      ∀ u, t.presented u =
        { ready := (s.unit u).readyLine
          onCylinder := (s.unit u).controllerCyl.isSome && !(s.unit u).seekPending
          seekFault := (s.unit u).seekFaultShown
          driveFault := (s.unit u).faultLine
          writeProtected := (s.unit u).protectedLine })

/-! ### Controller operations that no drive sees (R19, R23, R25 to R27) -/

/-- R19: UNIT SELECT makes the named unit the controller unit and is answered at once; nothing goes to the
drive face. -/
def Obligations.UnitSelectAnswered : Prop :=
  ∀ (s a : State) (u : UnitNo), s.bypassOpen = true → a = s.taken [] →
    exec (.unitSelect u) s = .next { a.answering (.selected u) with controllerUnit := u }

/-- R23, R45, R51: SEEK to cylinder 1023 raises SEEK END at once, and no seek item of the unit stays (log
23); SEEK to another cylinder, and RETURN TO ZERO as a SEEK to 0, set seek-pending and leave a seek item of
that command: it stands in the place of one not yet issued, and otherwise it is the newest, and an issued
one is gone (log 22). The other items stay in their order. In both the controller cylinder is the one
sought; a seek of the controller under way is given up and its recovery record goes; the heads and the rest
of the unit table stay as they are, and nothing is sent to the drive. -/
def Obligations.SeekTaken : Prop :=
  ∀ (s a : State) (u : UnitNo) (i : Instr) (cmd : SeekCmd) (c : Nat) (ofUnit waiting : Item → Bool),
    s.bypassOpen = true → a = s.taken [] → u = a.controllerUnit →
    (i = .seek c ∧ cmd = .to c ∨ i = .returnToZero ∧ cmd = .zero ∧ c = 0) →
    (ofUnit = fun x => match x with
      | .seek v _ _ => decide (v = u)
      | _ => false) →
    (waiting = fun x => match x with
      | .seek v _ issued => decide (v = u) && !issued
      | _ => false) →
    exec i s = .next { a with
      units := a.units.set u { a.unit u with
        controllerCyl := some c, seekPending := decide (c ≠ 1023), seekFaultShown := false
        motion := (a.unit u).motion.map fun (m : Motion) =>
          if m.issuer = .controller then { m with givenUp := true } else m
        recovery := (a.unit u).recovery.filter fun (r : Recovery) => r.issuer ≠ .controller }
      items := if c = 1023 then a.items.filter fun x => !ofUnit x
        else if a.items.any waiting then
          a.items.map fun x => if waiting x then .seek u cmd false else x
        else (a.items.filter fun x => !ofUnit x) ++ [.seek u cmd false]
      out := if c = 1023 then a.out ++ [.seekEnd u] else a.out
      noise := [] }

/-- R25 cases 2 and 3, R26, R38 and R54: off the maintenance cylinder, READ SECTOR, WRITE SECTOR and FORMAT
TRACK on a unit whose READY is down answer NOT READY, and on a unit not on cylinder answer SEEK FAULT; one
that would go to a drive which reports DRIVE FAULT answers DRIVE FAULT. Nothing else changes. -/
def Obligations.NotReadyAndOffCylinderAnswered : Prop :=
  ∀ (s a : State) (u : UnitNo) (i : Instr) (noise : List ReadoutNoise) (head sector : Nat)
    (data : List Word) (check : Option Word), s.bypassOpen = true → a = s.taken noise →
    u = a.controllerUnit → (a.unit u).controllerCyl ≠ some 1023 →
    (i = .readSector head sector noise ∨ noise = [] ∧ i = .writeSector head sector data check ∨
      noise = [] ∧ i = .formatTrack head data) →
    ((a.unit u).ready = false → exec i s = .next (a.answering (.answer u (.status .notReady)))) ∧
    ((a.unit u).ready = true → ((a.unit u).controllerCyl = none ∨ (a.unit u).seekPending = true) →
      exec i s = .next (a.answering (.answer u (.status .seekFault)))) ∧
    ∀ (c : Nat) (k : Addr), (a.unit u).ready = true → (a.unit u).controllerCyl = some c →
      (a.unit u).seekPending = false → (a.unit u).faultLine = true → k = ⟨u, c, head, sector⟩ →
      (i = .readSector head sector noise ∧
          ((a.unit u).geometry.present = false ∨ a.lookup k = none ∧
            (¬(c < (a.unit u).geometry.cylinders ∧ head < (a.unit u).geometry.heads ∧
                sector < (a.unit u).geometry.sectors) ∨
              (a.sectorJob k = none ∧ a.trackJob u c head = none) ∨
              (a.unit u).geometry.mode = .cutThrough)) ∨
        i ≠ .readSector head sector noise ∧ (a.unit u).policy = .pass) →
      exec i s = .next (a.answering (.answer u (.status .driveFault)))

/-- R26, R167, R170: a read of sector 0 of the maintenance cylinder fills word 3 with the highest-priority
notice present, takes a latched one out of the set, sets the read mark and answers the response as a
composed stream. A read of another sector there is answered with a composed stream of 256 words of 0000, and
nothing else changes. -/
def Obligations.ResponseRead : Prop :=
  ∀ (s a : State) (u : UnitNo) (noise : List ReadoutNoise) (head : Nat), s.bypassOpen = true →
    a = s.taken noise → u = a.controllerUnit → (a.unit u).controllerCyl = some 1023 →
    (∀ sector, sector ≠ 0 → exec (.readSector head sector noise) s = .next
      (a.answering (.answer u (.stream (composedStream 1023 head sector (List.replicate 256 0)))))) ∧
    ∃ t : State, exec (.readSector head 0 noise) s = .next t ∧
      t = { a with
        response := a.response.set 3 (if a.notices.driveFault then 1 else if a.notices.bankRetired then 2
          else if a.notices.recordsOverflow then 3 else if a.notices.jobEnded then 4
          else if a.storeFull then 5 else 0)
        notices := if a.notices.driveFault then { a.notices with driveFault := false }
          else if a.notices.bankRetired then { a.notices with bankRetired := false }
          else if a.notices.recordsOverflow then { a.notices with recordsOverflow := false }
          else if a.notices.jobEnded then { a.notices with jobEnded := false } else a.notices
        readMark := true
        out := a.out ++ [.answer u (.stream (composedStream 1023 head 0 t.response.items))]
        noise := [] }

/-- R27, R141, R142, R154: a read of an address with a current entry. Undamaged and read out clean, it is
answered with a composed stream of the entry's words, and STORE_HITS and the entry's hit count rise. A damaged
entry, and a redirected one whose readout fails, which becomes damaged, are answered NO DATA. An ordinary
entry whose readout fails is removed, and the read goes on as if none had been found. Nothing else changes. -/
def Obligations.ReadServedFromStore : Prop :=
  ∀ (s a : State) (u : UnitNo) (noise : List ReadoutNoise) (head sector c : Nat) (k : Addr) (e : Entry),
    s.bypassOpen = true → a = s.taken noise → u = a.controllerUnit →
    (a.unit u).ready = true → (a.unit u).seekPending = false → (a.unit u).controllerCyl = some c →
    c ≠ 1023 → (a.unit u).geometry.present = true → k = ⟨u, c, head, sector⟩ → a.lookup k = some e →
    (∀ data : List Word, e.damaged = false → (readEntry e a).1 = some data →
      ∃ t : State, exec (.readSector head sector noise) s = .next t ∧
        t = { a with
          units := t.units
          store := a.store.map fun (x : Entry) =>
            if x.key = k then { x with hits := min 4095 (x.hits + 1) } else x
          out := a.out ++ [.answer u (.stream (composedStream c head sector data))]
          noise := [] } ∧
        (∀ v, v ≠ u → t.unit v = a.unit v) ∧
        t.unit u = { a.unit u with counters := { (a.unit u).counters with
          storeHits := min 4095 ((a.unit u).counters.storeHits + 1) } }) ∧
    (e.damaged = true →
      exec (.readSector head sector noise) s = .next (a.answering (.answer u .noData))) ∧
    (e.damaged = false → (readEntry e a).1 = none → e.origin = .redirectedWrite →
      exec (.readSector head sector noise) s = .next { a.answering (.answer u .noData) with
        store := a.store.map fun (x : Entry) => if x.key = k then { x with damaged := true } else x }) ∧
    (e.damaged = false → (readEntry e a).1 = none → e.origin ≠ .redirectedWrite → s.current = none →
      exec (.readSector head sector noise) s = exec (.readSector head sector noise.tail) { s with
        store := s.store.filter fun (x : Entry) => x.key ≠ k, storeFull := false })

/-! ### Controller operations taken to a drive (R28, R29, R32, R38) -/

/-- R25 cases 4, 6, 7 and 8, R28, R29, R32, R54, R63: a read that goes to the drive. A unit not present is
read straight through, without a hold; an address outside the geometry without a slot; under CUT_THROUGH an
address that a job owns or covers as a pass read; any other as a pass read. A pass read takes the lowest
FREE slot while the available count is 1 or more, and none when it is 0. The unit is claimed, under a WAIT
hold when it is present, and nothing is sent yet. -/
def Obligations.PassReadTaken : Prop :=
  ∀ (s a : State) (u : UnitNo) (noise : List ReadoutNoise) (head sector c : Nat) (k : Addr) (kind : ReadKind)
    (inside : Prop),
    s.bypassOpen = true → a = s.taken noise → u = a.controllerUnit →
    (a.unit u).ready = true → (a.unit u).seekPending = false → (a.unit u).controllerCyl = some c →
    c ≠ 1023 → (a.unit u).faultLine = false → k = ⟨u, c, head, sector⟩ →
    (inside = (c < (a.unit u).geometry.cylinders ∧ head < (a.unit u).geometry.heads ∧
      sector < (a.unit u).geometry.sectors)) →
    (kind = .straight ∧ (a.unit u).geometry.present = false ∨
      (a.unit u).geometry.present = true ∧ a.lookup k = none ∧
        (kind = .outside ∧ ¬inside ∨
          kind = .owned ∧ inside ∧ (a.unit u).geometry.mode = .cutThrough ∧
            (a.sectorJob k ≠ none ∨ a.trackJob u c head ≠ none) ∨
          kind = .pass ∧ inside ∧ a.sectorJob k = none ∧ a.trackJob u c head = none)) →
    ∃ t : State, exec (.readSector head sector noise) s = .next t ∧
      t = { a with
        units := t.units, slots := t.slots, current := t.current,
        items := a.items ++ [.operation u], noise := [] } ∧
      (∀ v, v ≠ u → t.unit v = a.unit v) ∧
      t.unit u = { a.unit u with hold :=
        if (a.unit u).geometry.present then some ⟨.wait, 0, 0, c, head, sector⟩ else (a.unit u).hold } ∧
      (kind = .straight ∨ kind = .outside ∨ a.available = 0 →
        t.current = some ⟨u, c, head, sector, .read kind, none, false⟩ ∧ t.slots = a.slots) ∧
      ∀ i : SlotId, kind = .pass ∨ kind = .owned → 1 ≤ a.available → (a.slot i).state = .free →
        (∀ k : SlotId, k < i → (a.slot k).state ≠ .free) →
        t.current = some ⟨u, c, head, sector, .read kind, some i, false⟩ ∧
        t.slot i = { a.slot i with state := .filling, owner := some .relay } ∧
        ∀ k, k ≠ i → t.slot k = a.slot k

/-- R32, R80, R134: a CHECK_FIRST read of an address that a job owns makes the job foreground under a hold
with both its counts at 0, a FAILURE hold for a sector job and a WAIT hold for a track job; the drive is not
read for it. A track job that has a CLEAN capture of the sector, one that reads out clean, answers at once
with a composed stream of its data; the hold ends, and the job goes on in the background. -/
def Obligations.OwnedReadPromotes : Prop :=
  ∀ (s a b : State) (u : UnitNo) (noise : List ReadoutNoise) (head sector c : Nat) (j : Job)
    (kind : HoldKind),
    s.bypassOpen = true → a = s.taken noise → u = a.controllerUnit →
    (a.unit u).ready = true → (a.unit u).seekPending = false → (a.unit u).controllerCyl = some c →
    c ≠ 1023 → (a.unit u).geometry.present = true → a.lookup ⟨u, c, head, sector⟩ = none →
    c < (a.unit u).geometry.cylinders → head < (a.unit u).geometry.heads →
    sector < (a.unit u).geometry.sectors → (a.unit u).geometry.mode = .checkFirst →
    (kind = .failure ∧ a.sectorJob ⟨u, c, head, sector⟩ = some j ∨
      kind = .wait ∧ a.sectorJob ⟨u, c, head, sector⟩ = none ∧ a.trackJob u c head = some j) →
    b = { a with
      units := a.units.set u { a.unit u with hold := some ⟨kind, 0, 0, c, head, sector⟩ }
      jobs := a.jobs.map fun x => x.map fun k =>
        if k.number = j.number then { k with foreground := true } else k
      current := some ⟨u, c, head, sector, .read .held, none, false⟩ } →
    (kind = .failure ∨ (rowOf j sector).firstClean = none ∧ a.NumbersSound ∧
        (∀ x ∈ a.jobList, x.foreground = false) →
      exec (.readSector head sector noise) s = .next { b with noise := [] }) ∧
    ∀ (i : SlotId) (data : List Word), kind = .wait → (rowOf j sector).firstClean = some i →
      (readData i b).1 = some data → a.NumbersSound → (∀ x ∈ a.jobList, x.foreground = false) →
      ∃ t : State, exec (.readSector head sector noise) s = .next t ∧
        t.out = a.out ++ [.answer u (.stream (composedStream c head sector data))] ∧
        t.current = none ∧ (t.unit u).hold = none ∧
        t.job j.number = some { j with pin := none }

/-- R26, R39, R41: under BLOCK, under REDIRECT for FORMAT TRACK, and under REDIRECT on a unit not present, a
write or format is answered PROTECTED and counted, and nothing else changes. On the maintenance cylinder a
write of a sector other than 0 and a format are answered PROTECTED, and nothing changes. -/
def Obligations.WriteBlocked : Prop :=
  ∀ (s a : State) (u : UnitNo) (i : Instr) (head sector c : Nat) (data : List Word)
    (check : Option Word), s.bypassOpen = true → a = s.taken [] → u = a.controllerUnit →
    ((a.unit u).controllerCyl = some 1023 →
      (i = .writeSector head sector data check ∧ sector ≠ 0 ∨ i = .formatTrack head data) →
      exec i s = .next (a.answering (.answer u .writeProtected))) ∧
    ((a.unit u).ready = true → (a.unit u).seekPending = false → (a.unit u).controllerCyl = some c →
    c ≠ 1023 →
    (i = .writeSector head sector data check ∧ ((a.unit u).policy = .block ∨
        (a.unit u).policy = .redirect ∧ (a.unit u).geometry.present = false) ∨
      i = .formatTrack head data ∧ (a.unit u).policy ≠ .pass) →
    ∃ t : State, exec i s = .next t ∧
      t = { a.answering (.answer u .writeProtected) with units := t.units } ∧
      (∀ v, v ≠ u → t.unit v = a.unit v) ∧
      t.unit u = { a.unit u with counters := { (a.unit u).counters with
        writesBlocked := min 4095 ((a.unit u).counters.writesBlocked + 1) } })

/-- R40, R143, R145 to R147: a redirected write whose checkword matches, on a store with room, with its key,
or with an entry to evict, is answered WRITE DONE. The new entry stands at the newest end and takes the pin of
an entry it replaces; the entry evicted is the oldest stale one that is not redirected, otherwise the oldest
unpinned one. With none to evict the write is answered PROTECTED and counted, and the full condition is set.
No drive, job or slot is touched. -/
def Obligations.RedirectedWriteKept : Prop :=
  ∀ (s a : State) (u : UnitNo) (head sector c : Nat) (data : List Word) (check : Word) (k : Addr)
    (stale : Entry → Prop), s.bypassOpen = true → a = s.taken [] → u = a.controllerUnit →
    (a.unit u).ready = true → (a.unit u).seekPending = false → (a.unit u).controllerCyl = some c →
    c ≠ 1023 → (a.unit u).policy = .redirect → (a.unit u).geometry.present = true →
    data.length = 256 → wordSum data = check → k = ⟨u, c, head, sector⟩ →
    (stale = fun (e : Entry) => e.generation ≠ (a.unit e.key.unit).generation) →
    (∀ gone : Option Addr,
      ((a.store.length < 64 ∨ ∃ e ∈ a.store, e.key = k) ∧ gone = none ∨
        64 ≤ a.store.length ∧ (∀ e ∈ a.store, e.key ≠ k) ∧
          ∃ older e newer, a.store = older ++ e :: newer ∧ gone = some e.key ∧ e.origin ≠ .redirectedWrite ∧
            (stale e ∧ (∀ x ∈ older, x.origin = .redirectedWrite ∨ ¬stale x) ∨
              e.pinned = false ∧ (∀ x ∈ a.store, x.origin = .redirectedWrite ∨ ¬stale x) ∧
                ∀ x ∈ older, x.origin = .redirectedWrite ∨ x.pinned = true)) →
      ∃ t : State, exec (.writeSector head sector data (some check)) s = .next t ∧
        t = { a.answering (.answer u .writeDone) with
          units := t.units, storeFull := false
          store := (a.store.filter fun (e : Entry) => e.key ≠ k ∧ gone ≠ some e.key) ++
            [{ key := k, origin := .redirectedWrite,
               pinned := ((a.store.find? fun (e : Entry) => e.key = k).map Entry.pinned).getD false,
               generation := (a.unit u).generation, hits := 0, data := data.map storeWord,
               check := storeWord check, damaged := false }] } ∧
        (∀ v, v ≠ u → t.unit v = a.unit v) ∧
        t.unit u = { a.unit u with counters := { (a.unit u).counters with
          writesRedirected := min 4095 ((a.unit u).counters.writesRedirected + 1) } }) ∧
    (64 ≤ a.store.length → (∀ e ∈ a.store, e.key ≠ k) →
      (∀ e ∈ a.store, e.origin = .redirectedWrite ∨ (¬stale e ∧ e.pinned = true)) →
      ∃ t : State, exec (.writeSector head sector data (some check)) s = .next t ∧
        t = { a.answering (.answer u .writeProtected) with units := t.units, storeFull := true } ∧
        (∀ v, v ≠ u → t.unit v = a.unit v) ∧
        t.unit u = { a.unit u with counters := { (a.unit u).counters with
          writesBlocked := min 4095 ((a.unit u).counters.writesBlocked + 1) } })

/-- R16, R26, R40, R156, R158, R159: a redirected write whose checkword does not match is answered
PROTECTED, leaves the store as it was, and appends a CABLE_CHECK record with both checkwords where the queue
has room. On a full queue the record is lost, RECORDS_OVERFLOW is set, and so is the gap-pending mark. One
that has not come whole, with its 256 data words and its checkword, and such a write of sector 0 of the
maintenance cylinder, is the current operation, in receipt (R16, R26, log 17): it is not answered, and
nothing else changes. -/
def Obligations.RedirectedWriteMismatch : Prop :=
  ∀ (s a : State) (u : UnitNo) (head sector c : Nat) (data : List Word), s.bypassOpen = true →
    a = s.taken [] → u = a.controllerUnit → (a.unit u).controllerCyl = some c →
    (∀ check : Option Word, (data.length < 256 ∨ check = none) →
      (c = 1023 ∧ sector = 0 ∨ c ≠ 1023 ∧ (a.unit u).ready = true ∧ (a.unit u).seekPending = false ∧
        (a.unit u).policy = .redirect ∧ (a.unit u).geometry.present = true) →
      exec (.writeSector head sector data check) s = .next
        { a with current := some ⟨u, c, head, sector, .receiving data, none, false⟩, noise := [] }) ∧
    ∀ check : Word, (a.unit u).ready = true → (a.unit u).seekPending = false → c ≠ 1023 →
      (a.unit u).policy = .redirect → (a.unit u).geometry.present = true → data.length = 256 →
      wordSum data ≠ check →
      (a.records.length < 128 → exec (.writeSector head sector data (some check)) s = .next
        { a.answering (.answer u .writeProtected) with
          gapPending := false
          records := a.records ++ [.sector
            { gap := a.gapPending, job := 0, addr := ⟨u, c, head, sector⟩, origin := none,
              result := .cableCheck, lastVerdict := none, attempts := 0, merged := 0,
              report := { disputed := 0, first := none, undecided := 0, expected := some (wordSum data),
                          received := some check },
              disposition := .notKept, heldRevs := 0 }] }) ∧
      (128 ≤ a.records.length → exec (.writeSector head sector data (some check)) s = .next
        { a.answering (.answer u .writeProtected) with
          gapPending := true, notices := { a.notices with recordsOverflow := true } })

/-- R38, R41, R28: under PASS a write or format is taken to the drive: current, its unit claimed by an item,
under a WAIT hold when the unit is present; nothing is sent and nothing removed yet. That a format's operation
and held address have sector 0 is the model's choice (log 43). -/
def Obligations.PassWriteTaken : Prop :=
  ∀ (s a : State) (u : UnitNo) (i : Instr) (k : OpKind) (head sector c : Nat) (data : List Word)
    (check : Option Word), s.bypassOpen = true → a = s.taken [] → u = a.controllerUnit →
    (a.unit u).ready = true → (a.unit u).seekPending = false → (a.unit u).controllerCyl = some c →
    c ≠ 1023 → (a.unit u).policy = .pass → (a.unit u).faultLine = false →
    (i = .writeSector head sector data check ∧ k = .write data check ∨
      i = .formatTrack head data ∧ sector = 0 ∧ k = .format data) →
    ∃ t : State, exec i s = .next t ∧
      t = { a with
        units := t.units, items := a.items ++ [.operation u],
        current := some ⟨u, c, head, sector, k, none, false⟩, noise := [] } ∧
      (∀ v, v ≠ u → t.unit v = a.unit v) ∧
      t.unit u = { a.unit u with hold :=
        if (a.unit u).geometry.present then some ⟨.wait, 0, 0, c, head, sector⟩ else (a.unit u).hold }

/-- R42: cable initialize leaves no current operation, hold, controller cylinder, pending seek or shown fault;
the controller unit is 0 and no seek item waits. The foreground job becomes background without its pin, and a
seek of the controller under way finishes for no one. Every other job, the drives' side of the unit table and
every block behind the relay stay as the abandonment left them. -/
def Obligations.CableInitialized : Prop :=
  ∀ (s a : State), s.bypassOpen = true → a = s.taken [] →
    ∃ t : State, exec .cableInitialize s = .next t ∧
      t = { a with
        units := t.units, controllerUnit := 0, current := none, items := t.items, jobs := t.jobs, noise := [] } ∧
      t.items = (a.items.filter fun (i : Item) => !i.isSeek) ∧
      t.jobs = (a.jobs.map fun x => x.map fun (j : Job) =>
        if a.foregroundJob.map Job.number = some j.number then { j with foreground := false, pin := none }
        else j) ∧
      ((∀ j ∈ a.jobList, ∀ k ∈ a.jobList, j.foreground = true → k.foreground = true →
          j.number = k.number) → ∀ j ∈ t.jobList, j.foreground = false) ∧
      ∀ u, t.unit u = { a.unit u with
          controllerCyl := none, seekPending := false, seekFaultShown := false, hold := none
          motion := (a.unit u).motion.map fun (m : Motion) =>
            if m.issuer = .controller then { m with givenUp := true, silent := true } else m
          recovery := (a.unit u).recovery.filter fun (r : Recovery) => r.issuer ≠ .controller }

/-- R19, R42: an operation of the controller abandons what was current: its hold ends, its item goes, a
foreground job becomes background, the store is left as it was. A pass read that waits for the cable gives its
slot back: the relay has it no more. An operation on the cable is abandoned there;
a write cut off is made up with 0000 to its 256 data words and with 7777 for its checkword, a format with 0000
and 7777 for each missing header and header checkword (its length by the geometry, log 25). -/
def Obligations.AbandonmentEndsTheOperation : Prop :=
  ∀ (s a : State) (op : ControllerOp) (noise : List ReadoutNoise), s.current = some op → a = s.taken noise →
    (∀ j ∈ s.jobList, ∀ k ∈ s.jobList, j.foreground = true → k.foreground = true → j.number = k.number) →
    a.current = none ∧ (a.unit op.unit).hold = none ∧ (∀ u, .operation u ∉ a.items) ∧
      (∀ j ∈ a.jobList, j.foreground = false) ∧
      a.store = s.store ∧ a.controllerUnit = s.controllerUnit ∧
      (∀ x, op.issued = false → op.slot = some x → (s.slot x).owner = some .relay →
        (a.slot x).owner ≠ some .relay) ∧
      (op.issued = true →
        (a.grant = s.grant.map fun (g : Grant) => { g with abandoned := true }) ∧
        (∀ data check, op.kind = .write data check → data.length ≤ 256 → ∃ rest : List Word,
          .driveWords op.unit (data ++ rest ++
            [if data.length < 256 then 0o7777 else check.getD 0o7777]) ∈ a.out ∧
          data.length + rest.length = 256 ∧ ∀ w ∈ rest, w = 0) ∧
        ∀ headers, op.kind = .format headers → ∃ rest : List Word,
          .driveWords op.unit (headers ++ rest) ∈ a.out ∧
          headers.length + rest.length = max headers.length (3 * (s.unit op.unit).geometry.sectors) ∧
          ∀ (n : Nat) (w : Word), rest[n]? = some w →
            w = if (headers.length + n) % 3 = 2 then 0o7777 else 0)

/-! ### Holds (R33 to R35) -/

/-- R33: an INDEX mark of a unit with no hold goes through; one of a held unit whose count plus 1 is below H
is withheld, and the hold count and held revolutions rise by 1. Nothing else changes. -/
def Obligations.IndexMarkTaken : Prop :=
  ∀ (s : State) (u : UnitNo) (noise : List ReadoutNoise), s.bypassOpen = true →
    ((s.unit u).hold = none →
      exec (.indexMark u noise) s = .next { s with out := [.index u], noise := [] }) ∧
    ∀ h : Hold, (s.unit u).hold = some h → h.count + 1 < s.holdLimit →
      ∃ t : State, exec (.indexMark u noise) s = .next t ∧
        t = { s with units := t.units, out := [], noise := [] } ∧
        (∀ v, v ≠ u → t.unit v = s.unit v) ∧
        t.unit u = { s.unit u with
          hold := some { h with count := h.count + 1, revs := min 4095 (h.revs + 1) } }

/-- R33, R34: the mark at which a WAIT hold expires is let through, the count returns to 0, the held
revolutions rise, and the hold goes on, where no track job has filed a capture for the held read; where one
has and it reads out clean, the mark is withheld and the capture answers the controller word for word.
INDEX_MARK and WAIT_HOLD_EXPIRY both do the expiry: the model's reading of the two commands (log 15). -/
def Obligations.WaitHoldExpires : Prop :=
  ∀ (s : State) (u : UnitNo) (i : Instr) (noise : List ReadoutNoise) (h : Hold), s.bypassOpen = true →
    (i = .indexMark u noise ∨ i = .waitHoldExpiry u noise) →
    (s.unit u).hold = some h → h.kind = .wait → s.holdLimit ≤ h.count + 1 →
    ((∀ op j, s.current = some op → s.foregroundJob = some j → j.kind = .track →
        (rowOf j op.sector).firstFiled = none) →
      ∃ t : State, exec i s = .next t ∧
        t = { s with units := t.units, out := [.index u], noise := [] } ∧
        (∀ v, v ≠ u → t.unit v = s.unit v) ∧
        t.unit u = { s.unit u with hold := some { h with count := 0, revs := min 4095 (h.revs + 1) } }) ∧
    ∀ (op : ControllerOp) (j : Job) (x : SlotId) (words : List Word),
      s.current = some op → op.unit = u → op.kind = .read .held → s.foregroundJob = some j →
      j.kind = .track → (rowOf j op.sector).firstFiled = some x →
      (readWhole x (beginCommand noise s)).1 = some words →
      ∃ t : State, exec i s = .next t ∧ t.out = [.answer u (.stream words)] ∧ t.current = none ∧
        (t.unit u).hold = none

/-- R33, R35, R81: at the expiry of a FAILURE hold the mark is withheld and the controller is answered with
the fallback capture word for word, or NO DATA when there is none; the hold ends, its revolutions go to the
job, and the job becomes background without its pin. INDEX_MARK and FAILURE_HOLD_EXPIRY both do the expiry:
the model's reading of the two commands (log 15). -/
def Obligations.FailureHoldExpires : Prop :=
  ∀ (s : State) (u : UnitNo) (i : Instr) (noise : List ReadoutNoise) (h : Hold) (op : ControllerOp)
    (j : Job) (answer : Answer), s.bypassOpen = true →
    (i = .indexMark u noise ∨ i = .failureHoldExpiry u noise) →
    (s.unit u).hold = some h → h.kind = .failure → s.holdLimit ≤ h.count + 1 →
    s.current = some op → op.unit = u → s.foregroundJob = some j → j.kind = .sector →
    (fallbackCapture j = none ∧ answer = .noData ∨ ∃ x words, fallbackCapture j = some x ∧
      (readWhole x (beginCommand noise s)).1 = some words ∧ answer = .stream words) →
    ∃ t : State, exec i s = .next t ∧
      t = { s with
        units := t.units, current := none, out := [.answer u answer], noise := []
        items := s.items.filter fun x => !x.isOperation
        jobs := s.jobs.map fun e => e.map fun k => if k.number = j.number then
          { k with foreground := false, pin := none,
                   heldRevs := min 4095 (k.heldRevs + min 4095 (h.revs + 1)) } else k } ∧
      (∀ v, v ≠ u → t.unit v = s.unit v) ∧ t.unit u = { s.unit u with hold := none }

/-! ### The arbiter (R47 to R49) -/

/-- R45, R46, R47, R49: a cable in use is never taken away; with the cable free the relay's oldest eligible
item is granted, otherwise an eligible foreground job, otherwise the eligible background job of lowest key;
otherwise nothing happens. What makes an item and a request eligible, and the key, are written out in
`State.itemMayGo`, `State.jobMayGo` and `Job.notAfter`. Every job then finds where it stands (log 11). A job
granted before its read is positioned sends a retry's command while one of its own is due (R51), otherwise
the first command of R95 that applies: the reposition action of R96, R97 and R126 (its RESEEK from a
cylinder that the geometry no longer has by the model's choice, log 57; none after the attempt's own, log
59), its seek, its strobe, its offset; it is POSITIONING and owns its unit's positioning (R48). One in
AWAITING has its READ SECTOR or READ TRACK on the cable, with the slots it has taken: it is CAPTURING, its
attempts made rise or its revolution's marks begin, and the step's credit is noted (R94, R100, R128). The
former owner of the unit is told, by a read too (log 24). -/
def Obligations.GrantOrder : Prop :=
  ∀ (s : State) (noise : List ReadoutNoise), s.bypassOpen = true →
    (s.grant ≠ none → exec (.grant noise) s = .next { s with out := [], noise := [] }) ∧
    (s.grant = none →
      (∀ (older newer : List Item) (i : Item), s.items = older ++ i :: newer →
        (∀ x ∈ older, s.itemMayGo x = false) → s.itemMayGo i = true →
        exec (.grant noise) s =
          .next (endCommand (settleJobs (grantItem i (beginCommand noise s))))) ∧
      ((∀ x ∈ s.items, s.itemMayGo x = false) →
        ((∀ j ∈ s.jobList, s.jobMayGo j = false) →
          exec (.grant noise) s = .next { s with out := [], noise := [] }) ∧
        ((∃ j ∈ s.jobList, s.jobMayGo j = true) →
          ∃ j ∈ s.jobList, s.jobMayGo j = true ∧
            (∀ k ∈ s.jobList, s.jobMayGo k = true →
              j.foreground = true ∨ k.foreground = false ∧ (s.NumbersSound → j.notAfter k)) ∧
            exec (.grant noise) s =
              .next (endCommand (settleJobs (grantJob j (beginCommand noise s))))))) ∧
    ∀ (j : Job) (m : State) (e : UnitEntry) (x : PlanStep) (action : Reposition) (select : List Emission),
      m = grantJob j (beginCommand noise s) → e = s.unit j.unit →
      x = s.planStep j → action = j.actionDue x →
      (select = if s.selected = some j.unit then [] else [.driveSelect j.unit]) →
      ((j.state = .queued ∨ j.state = .positioning) → (∀ r ∈ e.recovery, r.issuer ≠ .job j.number) →
        (action ≠ .none → (m.unit j.unit).owner = some j.number ∧
          m.out.getLast? = some (.driveSeek j.unit
            (if j.actionSecond then .to j.cyl
              else if action = .zero ∨ e.geometry.cylinders ≤ 1 then .zero
              else if j.cyl + 1 < e.geometry.cylinders then .to (j.cyl + 1) else .to (j.cyl - 1)))) ∧
        (action = .none → e.driveCyl ≠ some j.cyl → (m.unit j.unit).owner = some j.number ∧
          m.out.getLast? = some (.driveSeek j.unit (.to j.cyl))) ∧
        (action = .none → e.driveCyl = some j.cyl → e.strobe ≠ some x.strobe →
          (m.unit j.unit).owner = some j.number ∧
          m.out.getLast? = some (.driveStrobe j.unit x.strobe)) ∧
        (action = .none → e.driveCyl = some j.cyl → e.strobe = some x.strobe →
          e.offset ≠ some x.offset → (m.unit j.unit).owner = some j.number ∧
          m.out.getLast? = some (.driveOffset j.unit x.offset))) ∧
      (∀ (r next : Recovery) (c : SeekCmd), (j.state = .queued ∨ j.state = .positioning) →
        s.job j.number = some j → e.recovery = some r → r.issuer = .job j.number → r.granted c next →
        m.out = select ++ [.driveSeek j.unit c] ∧
        m.unit j.unit = { e with
          owner := some j.number, driveCyl := none, onCylinderLine := false, seekFaultLine := false
          motion := some (seekMotion (.job j.number) c r.forAction), recovery := some next } ∧
        m.job j.number = some { j with state := .positioning }) ∧
      (j.state = .awaiting → s.job j.number = some j →
        m = { s with
          units := m.units, jobs := m.jobs, selected := some j.unit
          grant := some { holder := .job j.number, unit := j.unit, cyl := j.cyl, slots := j.filling
                          op := match j.kind with
                            | .sector => .readSector j.head j.sector
                            | .track => .readTrack j.head
                          nextMark := 0, abandoned := false }
          out := select ++ [.driveOp j.unit (match j.kind with
            | .sector => .readSector j.head j.sector
            | .track => .readTrack j.head)]
          noise := noise } ∧
        (m.unit j.unit).owner = e.owner.map (fun _ => j.number) ∧
        m.job j.number = some (match j.kind with
          | .sector => { j with
              state := .capturing, readCredit := x.credit, filling := []
              attemptsMade := min 4095 (j.attemptsMade + 1) }
          | .track => { j with
              state := .capturing, readCredit := x.credit, filling := [], revOffTrack := 0
              reseeks := if j.trackReseek then j.reseeks + 1 else j.reseeks
              trackReseek := false
              rows := j.rows.map fun r => { r with capturedNow := false, cleanNow := false } })) ∧
      ((j.state = .queued ∨ j.state = .positioning) → s.job j.number = some j → m.out ≠ [] →
        ∃ y : Job, m.job j.number = some y ∧ y.state = .positioning) ∧
      ∀ (n : Nat) (k : Job), e.owner = some n → n ≠ j.number → s.job n = some k → m.out ≠ [] →
        ∃ y : Job, m.job n = some y ∧ k.toldMoved y

/-- R18, R22, R23, R25, R28, R29, R32, R43 to R45, R48, R51, R78, R164: the relay's items, next in turn on a
unit that stands still. The controller's operation: away from its cylinder the relay's seek goes out, and
there SHIFT STROBE NORMAL or OFFSET HEADS CENTRE while one is wanted; the operation waits on, and the cable
is free again when the command has gone (log 8). With both, a READ SECTOR of any kind goes on the cable:
READS rises, FALLBACKS when a pass read or one of an owned address has no slot, the claim ends, and a hold
stays only where the controller waits for the check. A job that owned the unit's positioning owns it no more
and is told so, by a READ SECTOR no less than by a seek or a margin command (log 24). The controller's seek
item sends its seek, or its retry's command, and stays, marked issued, while every job of the unit is told;
a margin item sends SHIFT STROBE NORMAL, then OFFSET HEADS CENTRE, and goes once both are set. Every job
then finds where it stands (log 11). -/
def Obligations.PassReadIssued : Prop :=
  (∀ (s : State) (u : UnitNo) (noise : List ReadoutNoise) (op : ControllerOp) (newer : List Item)
    (select : List Emission),
    s.bypassOpen = true → s.grant = none → s.items = .operation u :: newer → s.current = some op →
    op.unit = u → op.issued = false → (s.unit u).motion = none → (s.unit u).recovery = none →
    ((∃ k, op.kind = .read k ∧ k ≠ .held) ∨ op.kind.toDrive = true) →
    (select = if s.selected = some u then [] else [.driveSelect u]) →
    ((s.unit u).driveCyl ≠ some op.cyl →
      ∃ m : State, exec (.grant noise) s = .next (endCommand (settleJobs m)) ∧
        m.out = select ++ [.driveSeek u (.to op.cyl)] ∧ m.current = s.current ∧ m.items = s.items ∧
        m.grant = none ∧ (m.unit u).driveCyl = none ∧
        (m.unit u).motion.map (fun (x : Motion) => (x.issuer, x.target)) = some (.relay, op.cyl)) ∧
    ((s.unit u).driveCyl = some op.cyl → (s.unit u).strobe ≠ some .normal →
      ∃ m : State, exec (.grant noise) s = .next (endCommand (settleJobs m)) ∧
        m.out = select ++ [.driveStrobe u .normal] ∧ m.current = s.current ∧ .operation u ∈ m.items ∧
        m.grant = none ∧ (m.unit u).strobe = some .normal) ∧
    ((s.unit u).driveCyl = some op.cyl → (s.unit u).strobe = some .normal →
      (s.unit u).offset ≠ some .centre →
      ∃ m : State, exec (.grant noise) s = .next (endCommand (settleJobs m)) ∧
        m.out = select ++ [.driveOffset u .centre] ∧ m.current = s.current ∧ .operation u ∈ m.items ∧
        m.grant = none ∧ (m.unit u).offset = some .centre) ∧
    ∀ kind : ReadKind, op.kind = .read kind → kind ≠ .held → (s.unit u).driveCyl = some op.cyl →
      (s.unit u).strobe = some .normal → (s.unit u).offset = some .centre →
      ∃ m : State, exec (.grant noise) s = .next (endCommand (settleJobs m)) ∧
        m = { s with
          units := m.units, jobs := m.jobs, selected := some u, current := some { op with issued := true }
          items := s.items.filter fun i => !i.isOperation
          grant := some { holder := .relay kind, op := .readSector op.head op.sector, unit := u,
                          cyl := op.cyl, slots := op.slot.toList, nextMark := 0, abandoned := false }
          out := select ++ [.driveOp u (.readSector op.head op.sector)]
          noise := noise } ∧
        (∀ v, v ≠ u → (s.unit u).owner = none → m.unit v = s.unit v) ∧
        m.unit u = { s.unit u with
          owner := none
          hold := if kind ≠ .pass ∨ op.slot = none ∨ (s.unit u).geometry.mode = .cutThrough then none
            else (s.unit u).hold
          counters := { (s.unit u).counters with
            reads := min 4095 ((s.unit u).counters.reads + 1)
            fallbacks := if op.slot = none ∧ (kind = .pass ∨ kind = .owned) then
              min 4095 ((s.unit u).counters.fallbacks + 1) else (s.unit u).counters.fallbacks } } ∧
        ∀ (n : Nat) (j : Job), (s.unit u).owner = some n → s.job n = some j →
          ∃ x : Job, m.job n = some x ∧ j.toldMoved x) ∧
  ∀ (s : State) (u : UnitNo) (noise : List ReadoutNoise) (i : Item) (newer : List Item)
    (select : List Emission) (stays : State → Item → Bool),
    s.bypassOpen = true → s.grant = none → s.items = i :: newer → (s.unit u).motion = none →
    (select = if s.selected = some u then [] else [.driveSelect u]) →
    (stays = fun m x => match x with
      | .margin v => !(decide ((m.unit v).strobe = some .normal) && decide ((m.unit v).offset = some .centre))
      | _ => true) →
    (∀ (cmd c : SeekCmd) (issued : Bool) (next : Option Recovery), i = .seek u cmd issued →
      (issued = false ∧ (∀ r ∈ (s.unit u).recovery, r.issuer ≠ .controller) ∧ c = cmd ∧ next = none ∨
        ∃ r x, (s.unit u).recovery = some r ∧ r.issuer = .controller ∧ r.granted c x ∧ next = some x) →
      ∃ m : State, exec (.grant noise) s = .next (endCommand (settleJobs m)) ∧
        m = { s with
          units := m.units, jobs := m.jobs, selected := some u
          items := s.items.map fun x => if x.isSeekOf u then .seek u cmd true else x
          out := select ++ [.driveSeek u c]
          noise := noise } ∧
        m.unit u = { s.unit u with
          owner := none, driveCyl := none, onCylinderLine := false, seekFaultLine := false
          motion := some (seekMotion .controller c false), recovery := next } ∧
        ∀ (n : Nat) (j : Job), s.job n = some j → j.unit = u → ∃ x : Job, m.job n = some x ∧ j.toldMoved x) ∧
    (i = .margin u → ∃ m : State, exec (.grant noise) s = .next (endCommand (settleJobs m)) ∧
      m = { s with
        units := m.units, jobs := m.jobs, selected := m.selected
        items := s.items.filter (stays m), out := m.out, noise := noise } ∧
      ((s.unit u).strobe ≠ some .normal → m.selected = some u ∧ m.out = select ++ [.driveStrobe u .normal] ∧
        m.unit u = { s.unit u with owner := none, strobe := some .normal, recovery := (m.unit u).recovery }) ∧
      ((s.unit u).strobe = some .normal → (s.unit u).offset ≠ some .centre →
        m.selected = some u ∧ m.out = select ++ [.driveOffset u .centre] ∧
        m.unit u = { s.unit u with owner := none, offset := some .centre, recovery := (m.unit u).recovery }) ∧
      ((s.unit u).strobe = some .normal → (s.unit u).offset = some .centre →
        m.selected = s.selected ∧ m.out = [] ∧ m.units = s.units ∧ m.jobs = s.jobs) ∧
      ∀ (n : Nat) (j : Job), (s.unit u).owner = some n → s.job n = some j → m.out ≠ [] →
        ∃ x : Job, m.job n = some x ∧ j.toldMoved x)

/-- R38, R41, R88, R135, R136, R150, R151: when a PASS WRITE SECTOR goes on the cable no entry of its key is
left in the store, and when a FORMAT TRACK does, none of its track; WRITES_SUPERSEDING has risen by as many,
and the other entries stay. The sector job of the address, or every sector job of the track, is ended
SUPERSEDED with its record; a track job marks the sector superseded, and ends at a format. -/
def Obligations.PassWriteIssued : Prop :=
  ∀ (s : State) (u : UnitNo) (noise : List ReadoutNoise) (op : ControllerOp) (newer : List Item),
    s.bypassOpen = true → s.grant = none → s.items = .operation u :: newer → s.current = some op →
    op.unit = u → op.issued = false → (s.unit u).motion = none →
    (s.unit u).recovery = none → (s.unit u).driveCyl = some op.cyl → (s.unit u).strobe = some .normal →
    (s.unit u).offset = some .centre →
    (∀ (data : List Word) (check : Option Word) (k : Addr), op.kind = .write data check →
      k = ⟨u, op.cyl, op.head, op.sector⟩ →
      ∃ m : State, exec (.grant noise) s = .next (endCommand (settleJobs m)) ∧
        .driveOp u (.writeSector op.head op.sector) ∈ m.out ∧
        (∀ e ∈ m.store, e.key ≠ k) ∧
        (m.unit u).counters.writesSuperseding =
          (if s.store.any fun (e : Entry) => e.key = k then
            min 4095 ((s.unit u).counters.writesSuperseding + 1)
          else (s.unit u).counters.writesSuperseding) ∧
        (s.trackJob u op.cyl op.head = none → m.store = s.store.filter fun (e : Entry) => e.key ≠ k) ∧
        (s.NumbersSound → s.OwnersSound → ∀ j, s.sectorJob k = some j →
          m.job j.number = none ∧ m.notices.jobEnded = true ∧
          (s.records.length < 128 → ∃ r : SectorRecord, .sector r ∈ m.records ∧ r.job = j.number ∧
            r.addr = k ∧ r.result = .superseded)) ∧
        (s.NumbersSound → ∀ j n, s.trackJob u op.cyl op.head = some j → op.sector < j.rows.length →
          j.state ≠ .merging → n < j.rows.length → n ≠ op.sector → (rowOf j n).superseded = false →
          ∃ x, m.trackJob u op.cyl op.head = some x ∧
            x.rows = j.rows.set op.sector { SectorRow.empty with superseded := true })) ∧
    ∀ (headers : List Word) (on : Entry → Bool), op.kind = .format headers → s.NumbersSound →
      (∀ j ∈ s.jobList, j.foreground = false) →
      (on = fun e => decide (e.key.unit = u ∧ e.key.cyl = op.cyl ∧ e.key.head = op.head)) →
      ∃ m : State, exec (.grant noise) s = .next (endCommand (settleJobs m)) ∧
        .driveOp u (.formatTrack op.head) ∈ m.out ∧
        m.store = (s.store.filter fun e => !on e) ∧
        (m.unit u).counters.writesSuperseding =
          min 4095 ((s.unit u).counters.writesSuperseding + s.store.countP on) ∧
        (∀ j ∈ s.sectorJobsOn u op.cyl op.head, m.job j.number = none ∧
          (s.records.length + (s.sectorJobsOn u op.cyl op.head).length ≤ 128 →
            ∃ r : SectorRecord, .sector r ∈ m.records ∧ r.job = j.number ∧ r.result = .superseded)) ∧
        ∀ j, s.trackJob u op.cyl op.head = some j → m.job j.number = none

/-! ### What the drives report -/

/-- R22, R24, R50, R51, R96, R97, R99: SEEK END gives the drive cylinder its motion's target and ends the
motion. That of a retry's RETURN TO ZERO, with the SEEK still to be repeated, makes that SEEK due, whoever's
it is, and is raised to no one. At the end of a seek not given up the recovery record goes. A controller's
is then raised to it where seek-pending is set and the controller stands on the target, and its item goes;
the relay's tells no one; a job's ends its wait, and in a reposition action makes the second command due or
completes the action. Of a seek given up only a controller's, taken over by a newer one to the same
cylinder, is raised (log 22). Every job then finds where it stands (log 11); the drive's ON CYLINDER line is
up (log 53). -/
def Obligations.SeekEndRaised : Prop :=
  ∀ (s b : State) (u : UnitNo) (noise : List ReadoutNoise) (m : Motion) (e : UnitEntry) (raised : Bool),
    s.bypassOpen = true → (s.unit u).motion = some m →
    e = { s.unit u with motion := none, driveCyl := some m.target, onCylinderLine := true } →
    (raised = ((s.unit u).seekPending && decide ((s.unit u).controllerCyl = some m.target))) →
    b = { s with out := [], noise := noise } →
    (∀ r, m.givenUp = false → (s.unit u).recovery = some r → r.phase = .homeMoving → r.home = false →
      exec (.seekEnd u noise) s = .next (endCommand (settleJobs { b with
        units := s.units.set u { e with recovery := some { r with phase := .seekDue } } }))) ∧
    (m.givenUp = false → (∀ r ∈ (s.unit u).recovery, r.phase = .homeMoving → r.home = true) →
      (m.issuer = .controller → m.silent = false →
        exec (.seekEnd u noise) s = .next (endCommand (settleJobs { b with
          units := s.units.set u { e with
            recovery := none, seekPending := if raised then false else (s.unit u).seekPending }
          items := s.items.filter fun i => !i.isIssuedSeekOf u
          out := if raised then [.seekEnd u] else [] }))) ∧
      (m.issuer = .relay → exec (.seekEnd u noise) s = .next (endCommand (settleJobs { b with
        units := s.units.set u { e with recovery := none } }))) ∧
      ∀ n, m.issuer = .job n → exec (.seekEnd u noise) s = .next (endCommand (settleJobs { b with
        units := s.units.set u { e with recovery := none }
        jobs := s.jobs.map fun x => x.map fun j =>
          if j.number = n ∧ j.state = .positioning ∧ m.forAction = true then
            if j.actionSecond then { j with
              actionSecond := false, actionDone := true, repositionNeeded := false
              headerMark := if j.headerMark = .due then .done else j.headerMark }
            else { j with actionSecond := true }
          else j }))) ∧
    (m.givenUp = true →
      (m.issuer = .controller → m.silent = false →
        exec (.seekEnd u noise) s = .next (endCommand (settleJobs { b with
          units := s.units.set u { e with
            seekPending := if raised then false else (s.unit u).seekPending }
          out := if raised then [.seekEnd u] else [] }))) ∧
      (m.issuer ≠ .controller ∨ m.silent = true →
        exec (.seekEnd u noise) s = .next (endCommand (settleJobs { b with units := s.units.set u e }))))

/-- R35, R37, R51, R52, R137: a SEEK FAULT of a seek that its issuer has not given up is retried with RETURN
TO ZERO while the retries used are below the limit. At the limit the recovery record goes, and a controller
seek ends with seek fault shown, seek-pending clear and the controller cylinder UNKNOWN; the relay's
repositioning answers the controller's operation with SEEK FAULT, its hold ended and its slot released, seek
fault shown and the controller cylinder as it was; a job ends FAULTED with its record and owns no unit. A
controller held for a sector job gets its fallback capture word for word, or NO DATA where the readout
fails, and one held for a track job the first capture filed under its sector; where the job has none, or a
track job's is not read out (R137), it gets an INDEX mark, driven at once by the model's choice (log 56),
before the read is taken up again. Every job then finds where it stands (log 11); the drive's SEEK FAULT
line is up (log 53). -/
def Obligations.SeekFaultRetriedOrShown : Prop :=
  ∀ (s : State) (u : UnitNo) (noise : List ReadoutNoise) (m : Motion) (r : Recovery),
    s.bypassOpen = true → (s.unit u).motion = some m → m.givenUp = false →
    ((s.unit u).recovery = some r ∨ (s.unit u).recovery = none ∧ r =
      { issuer := m.issuer, target := m.target, home := m.home, used := 0, phase := .homeDue,
        forAction := m.forAction }) →
    (r.used < (s.unit u).geometry.retryLimit →
      exec (.seekFault u noise) s = .next (endCommand (settleJobs { s with
        units := s.units.set u { s.unit u with
          motion := none, recovery := some { r with phase := .homeDue }, seekFaultLine := true }
        out := []
        noise := noise }))) ∧
    ((s.unit u).geometry.retryLimit ≤ r.used → r.issuer = .controller →
      exec (.seekFault u noise) s = .next (endCommand (settleJobs { s with
        units := s.units.set u { s.unit u with
          motion := none, recovery := none, seekPending := false, controllerCyl := none,
          seekFaultShown := true, seekFaultLine := true }
        items := s.items.filter fun i => !i.isIssuedSeekOf u
        out := []
        noise := noise }))) ∧
    (∀ op : ControllerOp, (s.unit u).geometry.retryLimit ≤ r.used → r.issuer = .relay →
      s.current = some op → op.issued = false →
      ∃ b : State, exec (.seekFault u noise) s = .next (endCommand (settleJobs b)) ∧
        b.out = [.answer op.unit (.status .seekFault)] ∧ b.current = none ∧
        (b.unit op.unit).hold = none ∧ (b.unit u).seekFaultShown = true ∧ (b.unit u).motion = none ∧
        (b.unit u).recovery = none ∧ (b.unit u).controllerCyl = (s.unit u).controllerCyl ∧
        (b.unit u).driveCyl = (s.unit u).driveCyl ∧
        ∀ i, op.slot = some i → (s.slot i).owner = some .relay → (b.slot i).owner ≠ some .relay) ∧
    ∀ (n : Nat) (j : Job), (s.unit u).geometry.retryLimit ≤ r.used → r.issuer = .job n →
      s.job n = some j →
      ∃ b : State, exec (.seekFault u noise) s = .next (endCommand (settleJobs b)) ∧ b.job n = none ∧
        (b.unit u).motion = none ∧ (b.unit u).recovery = none ∧
        (b.unit u).driveCyl = (s.unit u).driveCyl ∧ (∀ v, (b.unit v).owner ≠ some n) ∧
        (s.records.length < 128 →
          (j.kind = .sector → ∃ x : SectorRecord, .sector x ∈ b.records ∧ x.job = n ∧
            x.result = .faulted) ∧
          (j.kind = .track → ∃ x : TrackRecord, .track x ∈ b.records ∧ x.job = n ∧
            x.result = .faulted)) ∧
        (j.foreground = false → b.out = [] ∧ b.current = s.current ∧ b.notices.jobEnded = true) ∧
        ∀ (op : ControllerOp) (capture : Option SlotId) (words : Option (List Word)),
          s.current = some op → j.foreground = true →
          capture = (match j.kind with
            | .sector => fallbackCapture j
            | .track => (rowOf j op.sector).firstFiled) →
          (words = capture.bind fun x => (readWhole x (beginCommand noise s)).1) →
          ((s.unit op.unit).controllerCyl ≠ some 1023 → b.notices.jobEnded = true) ∧
          (capture = none ∨ j.kind = .track ∧ words = none → b.out.head? = some (.index op.unit)) ∧
          (capture ≠ none → j.kind = .sector ∨ words ≠ none →
            b.current = none ∧ (b.unit op.unit).hold = none ∧
            b.out = [.answer op.unit (match words with
              | some l => .stream l
              | none => .noData)])

/-- R53, R55, R91: at an onset of DRIVE FAULT, and at a fall of READY, every job of the unit is gone, no
grant is held on it, its motion and seek recovery are over, its seek item is dropped and its owner cleared,
drive and controller cylinder are UNKNOWN, seek-pending and the off-track count are clear. The controller's
operation on the unit is answered DRIVE FAULT or NOT READY, its hold ends, and a pass read's slot is
released. DRIVE FAULT is shown, sets its notice, which no held read taken up again takes out, as none stands
on the maintenance cylinder, and keeps the generation; a fall of READY advances the generation by 1,
wrapping, and clears seek fault shown. A DRIVE FAULT already reported, or a READY already down, changes
nothing. -/
def Obligations.UnitFails : Prop :=
  ∀ (s : State) (u : UnitNo) (i : Instr) (arrived : List Word), s.bypassOpen = true →
    (i = .driveFault u arrived ∧ (s.unit u).faultLine = true ∨
      i = .readyFall u arrived ∧ (s.unit u).readyLine = false →
      ∃ t : State, exec i s = .next t ∧ t = { s with units := t.units, out := [], noise := [] } ∧
        ∀ v, t.unit v = s.unit v) ∧
    (i = .driveFault u arrived ∧ (s.unit u).faultLine = false ∨
      i = .readyFall u arrived ∧ (s.unit u).readyLine = true →
    ∃ t : State, exec i s = .next t ∧
      (∀ j ∈ t.jobList, j.unit ≠ u) ∧ (∀ g, t.grant = some g → g.unit ≠ u) ∧
      (t.unit u).motion = none ∧ (t.unit u).recovery = none ∧ (t.unit u).driveCyl = none ∧
      (t.unit u).controllerCyl = none ∧ (t.unit u).seekPending = false ∧
      (t.unit u).offTrack = 0 ∧ (t.unit u).countedTrack = none ∧
      (∀ cmd b, .seek u cmd b ∉ t.items) ∧
      ((∀ n, (s.unit u).owner = some n → ∃ j ∈ s.jobList, j.number = n ∧ j.unit = u) →
        (t.unit u).owner = none) ∧
      (∀ op, s.current = some op → op.unit = u → (i = .driveFault u arrived → receivingWrite op = false) →
        t.current = none ∧ (t.unit u).hold = none ∧
        .answer u (.status (if i = .driveFault u arrived then .driveFault else .notReady)) ∈ t.out) ∧
      (∀ (op : ControllerOp) (x : SlotId), s.current = some op → op.unit = u → op.issued = false →
        op.slot = some x → receivingWrite op = false → (∀ j ∈ s.jobList, j.foreground = false) →
        (s.slot x).owner = some .relay → (t.slot x).owner ≠ some .relay) ∧
      (∀ (g : Grant) (k : ReadKind) (x : SlotId), s.grant = some g → g.unit = u → g.holder = .relay k →
        (∃ head sector, g.op = .readSector head sector) → g.slots = [x] →
        (s.slot x).owner = some .relay → (t.slot x).owner ≠ some .relay) ∧
      (i = .driveFault u arrived → (t.unit u).faultLine = true ∧
        ((∀ j ∈ s.jobList, j.foreground = false) ∨
            (∀ op, s.current = some op → (s.unit op.unit).controllerCyl ≠ some 1023) →
          t.notices.driveFault = true) ∧
        (t.presented u).driveFault = true ∧ (t.unit u).generation = (s.unit u).generation) ∧
      (i = .readyFall u arrived → (t.unit u).readyLine = false ∧ (t.unit u).ready = false ∧
        (t.presented u).ready = false ∧ (t.unit u).seekFaultShown = false ∧
        (t.unit u).generation.toNat = ((s.unit u).generation.toNat + 1) % 4096))

/-- R54, R56: a unit that returns to service has UNKNOWN margins and a margin item; at a rise of READY, READY
as last seen is up; DRIVE FAULT is no longer shown after it clears. The cylinders stay as they were. -/
def Obligations.UnitReturnsToService : Prop :=
  ∀ (s : State) (u : UnitNo) (i : Instr), s.bypassOpen = true →
    (i = .returnToService u ∧ (s.unit u).faultLine = true ∨
      i = .readyRise u ∧ (s.unit u).readyLine = false) →
    ∃ t : State, exec i s = .next t ∧ (t.unit u).strobe = none ∧ (t.unit u).offset = none ∧
      .margin u ∈ t.items ∧ (t.unit u).driveCyl = (s.unit u).driveCyl ∧
      (t.unit u).controllerCyl = (s.unit u).controllerCyl ∧
      (i = .returnToService u → (t.unit u).faultLine = false ∧ (t.presented u).driveFault = false) ∧
      (i = .readyRise u → (t.unit u).readyLine = true ∧ (t.unit u).ready = true ∧
        (t.presented u).ready = true)

/-- R13, R17, R25, R29 to R32, R134: a read of the relay that makes no job. A CHECK_FIRST pass read that the
check unit finds CLEAN, read back from healthy cells, is answered with a composed stream of exactly the data
words the drive delivered. One whose words go up as they come is answered as the drive answered: a CLEAN
fallback's or CUT_THROUGH read's, and, whatever the outcome, one outside the geometry, one of a unit not
present, which is not examined (R6; by the mark at the stream's end, log 41), and one covered by a track
job. The hold, the operation and the grant end, the slot is no longer the relay's, no counter of any unit
advances, and no job is made. The stream of a read that the controller has abandoned is not sent up: found
CLEAN, or where such a read makes no job, it gives its slot back and changes nothing else (R19; of a read of
an owned address this is the model's choice, log 21). -/
def Obligations.CleanReadDelivered : Prop :=
  ∀ (s : State) (g : Grant) (d : Delivery) (head sector : Nat) (kind : ReadKind),
    s.bypassOpen = true → s.grant = some g → g.holder = .relay kind → g.op = .readSector head sector →
    (∀ (op : ControllerOp) (i : SlotId) (words : List Word), g.abandoned = false → s.current = some op →
      op.unit = g.unit → kind = .pass → g.slots = [i] →
      (s.unit g.unit).geometry.present = true → (s.unit g.unit).geometry.mode = .checkFirst →
      (judge g.cyl head sector d).outcome = .clean → deliveredWords d = some words →
      ∃ t : State, exec (.streamChecked d []) s = .next t ∧
        t.out = [.answer g.unit (.stream (composedStream op.cyl op.head op.sector (dataOf words)))] ∧
        t.current = none ∧ t.grant = none ∧ (t.unit g.unit).hold = none ∧
        (∀ v, (t.unit v).counters = (s.unit v).counters) ∧
        (∀ j ∈ t.jobList, ∃ x ∈ s.jobList, x.number = j.number) ∧
        ((s.slot i).owner = some .relay → (t.slot i).owner ≠ some .relay)) ∧
    (∀ (op : ControllerOp) (noise : List ReadoutNoise), g.abandoned = false → s.current = some op →
      op.unit = g.unit →
      (kind = .outside ∨ kind = .straight ∨ kind ≠ .held ∧ (s.unit g.unit).geometry.present = false ∨
        kind = .owned ∧ s.sectorJob ⟨g.unit, g.cyl, head, sector⟩ = none ∨
        kind = .pass ∧ (judge g.cyl head sector d).outcome = .clean ∧
          (g.slots = [] ∨ (s.unit g.unit).geometry.mode = .cutThrough)) →
      ∃ t : State, exec (.streamChecked d noise) s = .next t ∧
        t.out = [.answer g.unit (sentAnswer d)] ∧ t.current = none ∧ t.grant = none ∧
        (t.unit g.unit).hold = none ∧ (∀ v, (t.unit v).counters = (s.unit v).counters) ∧
        (∀ j ∈ t.jobList, ∃ x ∈ s.jobList, x.number = j.number) ∧
        ∀ i, kind = .pass ∨ kind = .owned → g.slots = [i] → (s.slot i).owner = some .relay →
          (t.slot i).owner ≠ some .relay) ∧
    ∀ noise : List ReadoutNoise, g.abandoned = true →
      (kind = .outside ∨ kind = .straight ∨ (s.unit g.unit).geometry.present = false ∨
        kind = .owned ∧ s.sectorJob ⟨g.unit, g.cyl, head, sector⟩ = none ∨
        (kind = .pass ∨ kind = .owned) ∧ (judge g.cyl head sector d).outcome = .clean) →
      ∃ b : State, exec (.streamChecked d noise) s = .next (endCommand (settleJobs b)) ∧
        b = { s with grant := none, slots := b.slots, jobs := b.jobs, out := [], noise := noise } ∧
        (b.jobList.map fun (j : Job) => { j with reservation := 0 }) =
          (s.jobList.map fun (j : Job) => { j with reservation := 0 }) ∧
        (∀ i, i ∉ g.slots → b.slot i = s.slot i) ∧
        ∀ i, kind = .pass ∨ kind = .owned → g.slots = [i] → (s.slot i).owner = some .relay →
          (b.slot i).owner = none

/-- R19, R29 to R32, R66, R74, R80, R84, R134, R158, R159: a read of the relay whose stream is not CLEAN,
damaged or, of outcome WRONG_HEADER or NO_SYNC, without a capture (where no escalation is to be tried, R92),
or whose CLEAN capture a CHECK_FIRST read cannot read back, which leaves it without one too (R30). A
CHECK_FIRST pass read makes a foreground READ_FAILURE job of the address with the capture as its pinned
original, of credit 3; the WAIT hold becomes a FAILURE hold with its count at 0 and its revolutions kept,
FAILURES rises, and the controller sees nothing. It makes none where a job has the address meanwhile: a
sector job becomes foreground, with the capture as its pinned original where it takes it; a track job
becomes foreground, the WAIT hold staying with its count at 0, the model's choice (log 26), and delivers a
CLEAN capture of the sector at once. A pass read whose words went up makes a background job, unpinned; so
does one that the controller has abandoned (R19), of which nothing goes up and which leaves the operation
and the hold that stand meanwhile. A refused job leaves a NO_JOB record, and a held controller gets the
capture word for word, or NO DATA without one. A sector job that owns the address of such a read, whatever
its state, is offered its capture (R84), as it is that of a CUT_THROUGH read of an owned address, where
FAILURES stays (abandoned, that read is dealt with alike, log 21); a track job takes none. -/
def Obligations.FailedReadMakesJob : Prop :=
  ∀ (s : State) (g : Grant) (op : ControllerOp) (d : Delivery) (noise : List ReadoutNoise)
    (head sector : Nat) (k : Addr) (o : CheckOutcome) (kept lost : Bool), s.bypassOpen = true →
    s.grant = some g → g.op = .readSector head sector → (s.unit g.unit).geometry.present = true →
    (g.abandoned = false → s.current = some op ∧ op.unit = g.unit) → k = ⟨g.unit, g.cyl, head, sector⟩ →
    o = (judge g.cyl head sector d).outcome →
    (kept = true ↔ o ∈ [CheckOutcome.headerCheck, .dataCheck, .dropout]) → (lost = false → o ≠ .clean) →
    (lost = true → o = .clean ∧ g.abandoned = false ∧ (s.unit g.unit).geometry.mode = .checkFirst ∧
      (∃ i, g.slots = [i] ∧ (s.banks.get (bankOf i)).parity < 15) ∧
      ∃ (words : List Word) (w : Nat) (x : Word), deliveredWords d = some words ∧ 3 ≤ w ∧ w < 259 ∧
        words[w]? = some x ∧ readStored (noise.headD []) w (storeWord x) = none) →
    (o = .wrongHeader → (s.unit g.unit).geometry.escalation = 0 ∨
      (if (s.unit g.unit).countedTrack = some (g.cyl, head) then min 8 ((s.unit g.unit).offTrack + 1)
        else 1) < (s.unit g.unit).geometry.escalation) →
    (s.bankRetired 0 = false → (kept = false → s.bankRetired 1 = false) →
    (∀ (i : SlotId) (size : Nat) (h : Hold), g.holder = .relay .pass → g.abandoned = false →
      g.slots = [i] → (s.unit g.unit).geometry.mode = .checkFirst → (s.unit g.unit).hold = some h →
      (s.slot i).state = .filling → (s.slot i).owner = some .relay → (∀ j ∈ s.jobList, i ∉ j.list) →
      s.sectorJob k = none → s.trackJob g.unit g.cyl head = none →
      s.emptyEntry ≠ none → s.sectorGrant true = some size → (∀ j ∈ s.jobList, j.foreground = false) →
      ∃ (t : State) (j : Job), exec (.streamChecked d noise) s = .next t ∧
        t.job s.drawNumber = some j ∧ j.foreground = true ∧ j.kind = .sector ∧ j.origin = .readFailure ∧
        j.unit = g.unit ∧ j.cyl = g.cyl ∧ j.head = head ∧ j.sector = sector ∧
        j.list = (if kept then [i] else []) ∧ j.pin = (if kept then some i else none) ∧ j.granted = size ∧
        (kept = true → (t.slot i).owner = some (.job j.number) ∧ (t.slot i).credit = some 3) ∧
        (t.slot i).owner ≠ some .relay ∧ t.out = [] ∧ t.grant = none ∧
        t.current = some { op with kind := .read .held, slot := none, issued := false } ∧
        (t.unit g.unit).hold = some { h with kind := .failure, count := 0 } ∧
        (t.unit g.unit).counters.failures = min 4095 ((s.unit g.unit).counters.failures + 1)) ∧
    (∀ (i : SlotId) (h : Hold) (j : Job), g.holder = .relay .pass → g.abandoned = false →
      g.slots = [i] → (s.unit g.unit).geometry.mode = .checkFirst → (s.unit g.unit).hold = some h →
      (s.slot i).state = .filling → (s.slot i).owner = some .relay → s.NumbersSound →
      (∀ x ∈ s.jobList, x.foreground = false) →
      (s.sectorJob k = some j → ∃ (b : State) (x : Job),
        exec (.streamChecked d noise) s = .next (endCommand (settleJobs b)) ∧ b.job j.number = some x ∧
          x.foreground = true ∧ x.state = j.state ∧ b.out = [] ∧ b.grant = none ∧
          b.current = some { op with kind := .read .held, slot := none, issued := false } ∧
          (b.unit g.unit).hold = some { h with kind := .failure, count := 0 } ∧
          (b.unit g.unit).counters.failures = min 4095 ((s.unit g.unit).counters.failures + 1) ∧
          (∀ y ∈ b.jobList, ∃ z ∈ s.jobList, z.number = y.number) ∧
          CaptureOffered s b j x [i] kept true) ∧
      (s.sectorJob k = none → s.trackJob g.unit g.cyl head = some j →
        ∃ b : State, exec (.streamChecked d noise) s = .next (endCommand (settleJobs b)) ∧
          b.grant = none ∧ (b.slot i).owner ≠ some .relay ∧
          (b.unit g.unit).counters.failures = min 4095 ((s.unit g.unit).counters.failures + 1) ∧
          (∀ y ∈ b.jobList, ∃ z ∈ s.jobList, z.number = y.number) ∧
          ((rowOf j op.sector).firstClean = none →
            (∃ x, b.job j.number = some x ∧ x.foreground = true ∧ x.rows = j.rows ∧ x.state = j.state) ∧
            b.out = [] ∧ b.current = some { op with kind := .read .held, slot := none, issued := false } ∧
            (b.unit g.unit).hold = some { h with kind := .wait, count := 0 }) ∧
          ∀ (c : SlotId) (data : List Word), (rowOf j op.sector).firstClean = some c → c ≠ i →
            (readData c (beginCommand (if lost then noise.tail else noise) s)).1 = some data →
            (∃ x, b.job j.number = some x ∧ x.foreground = false ∧ x.rows = j.rows ∧ x.state = j.state) ∧
            b.out = [.answer op.unit (.stream (composedStream op.cyl op.head op.sector data))] ∧
            b.current = none ∧ (b.unit g.unit).hold = none)) ∧
    (∀ size : Nat, g.holder = .relay .pass →
      (g.slots = [] ∨ g.slots.length = 1 ∧
        (g.abandoned = true ∨ (s.unit g.unit).geometry.mode = .cutThrough)) →
      (∀ i ∈ g.slots, (s.slot i).state = .filling ∧ (s.slot i).owner = some .relay ∧
        ∀ j ∈ s.jobList, i ∉ j.list) → (∀ i, (s.slot i).owner ≠ some (.job s.drawNumber)) →
      s.sectorJob k = none → s.trackJob g.unit g.cyl head = none → s.emptyEntry ≠ none →
      s.sectorGrant (decide (g.slots ≠ [])) = some size →
      (g.abandoned = false → ∀ j ∈ s.jobList, j.foreground = false) →
      ∃ (t : State) (j : Job), exec (.streamChecked d noise) s = .next t ∧
        t.job s.drawNumber = some j ∧ j.foreground = false ∧ j.kind = .sector ∧ j.origin = .readFailure ∧
        j.unit = g.unit ∧ j.cyl = g.cyl ∧ j.head = head ∧ j.sector = sector ∧
        j.list = (if kept then g.slots else []) ∧ (∀ i ∈ g.slots, (t.slot i).owner ≠ some .relay) ∧
        j.pin = none ∧ j.granted = size ∧ t.grant = none ∧
        t.out = (if g.abandoned then [] else [.answer g.unit (sentAnswer d)]) ∧
        t.current = (if g.abandoned then s.current else none) ∧
        (t.unit g.unit).hold = (if g.abandoned then (s.unit g.unit).hold else none) ∧
        (t.unit g.unit).counters.failures = min 4095 ((s.unit g.unit).counters.failures + 1)) ∧
    (∀ waits : Bool, g.holder = .relay .pass →
      (waits = false ∧ g.slots = [] ∨ g.slots.length = 1 ∧
        (waits = true ↔ (s.unit g.unit).geometry.mode = .checkFirst ∧ g.abandoned = false)) →
      (kept = true → waits = true → noise = []) →
      s.sectorJob k = none → s.trackJob g.unit g.cyl head = none →
      (s.emptyEntry = none ∨ s.sectorGrant (decide (g.slots ≠ [])) = none ∧
        (kept = true ∨ g.slots = [] ∨ s.anyShortened = false)) → s.records.length < 128 →
      ∃ t : State, exec (.streamChecked d noise) s = .next t ∧ t.grant = none ∧
        t.out = (if g.abandoned then [] else
          [.answer g.unit (if waits && !kept then .noData else sentAnswer d)]) ∧
        t.current = (if g.abandoned then s.current else none) ∧
        (t.unit g.unit).hold = (if g.abandoned then (s.unit g.unit).hold else none) ∧
        (∀ i ∈ g.slots, (s.slot i).owner = some .relay → (t.slot i).owner ≠ some .relay) ∧
        (t.unit g.unit).counters.failures = min 4095 ((s.unit g.unit).counters.failures + 1) ∧
        t.records = s.records ++ [.sector
          { gap := s.gapPending, job := 0, addr := k, origin := some .readFailure, result := .noJob,
            lastVerdict := none, attempts := 0, merged := 0,
            report := { disputed := 0, first := none, undecided := 0, expected := none, received := none },
            disposition := .notKept
            heldRevs := if waits then ((s.unit g.unit).hold.map Hold.revs).getD 0 else 0 }])) ∧
    ∀ (j : Job) (owned : Bool), g.holder = .relay (if owned then .owned else .pass) →
      (g.slots = [] ∨ g.slots.length = 1 ∧
        (owned = true ∨ g.abandoned = true ∨ (s.unit g.unit).geometry.mode = .cutThrough)) →
      s.NumbersSound → (∀ i ∈ g.slots, (s.slot i).state = .filling ∧ (s.slot i).owner = some .relay ∧
        ∀ x ∈ s.jobList, i ∉ x.list) → lost = false →
      (g.abandoned = false → ∀ x ∈ s.jobList, x.foreground = false) →
      (s.sectorJob k = some j →
        ∃ (b : State) (x : Job), exec (.streamChecked d noise) s = .next (endCommand (settleJobs b)) ∧
          b.job j.number = some x ∧ b.grant = none ∧
          b.out = (if g.abandoned then [] else [.answer g.unit (sentAnswer d)]) ∧
          b.current = (if g.abandoned then s.current else none) ∧
          (b.unit g.unit).counters.failures = (if owned then (s.unit g.unit).counters.failures
            else min 4095 ((s.unit g.unit).counters.failures + 1)) ∧
          x.state = j.state ∧ x.foreground = j.foreground ∧
          (x.headerMark = if o = .wrongHeader ∧ j.headerMark = .none then .due else j.headerMark) ∧
          (∀ y ∈ b.jobList, ∃ z ∈ s.jobList, z.number = y.number) ∧
          CaptureOffered s b j x g.slots kept false) ∧
      (owned = false → s.sectorJob k = none → s.trackJob g.unit g.cyl head = some j →
        ∃ b : State, exec (.streamChecked d noise) s = .next (endCommand (settleJobs b)) ∧
          b.out = (if g.abandoned then [] else [.answer g.unit (sentAnswer d)]) ∧ b.grant = none ∧
          b.current = (if g.abandoned then s.current else none) ∧
          (b.unit g.unit).counters.failures = min 4095 ((s.unit g.unit).counters.failures + 1) ∧
          (b.jobList.map fun (x : Job) => { x with reservation := 0 }) =
            (s.jobList.map fun (x : Job) => { x with reservation := 0 }) ∧
          ∀ i ∈ g.slots, (b.slot i).owner ≠ some .relay)

/-- R66, R82, R84, R85, R91, R94, R101, R102, R107: the reads of an address with a sector job. A damaged
stream of the job's own read that is kept joins the end of its list with the credit of its step, its words
and the check unit's findings in its slot (R12), and with a capture already there a merge of the whole list,
its oldest first, each capture as its slot and a readout of it give it, is asked for with Q and T as they
stand; the grant ends. The outcome feeds the unit's off-track count: a readable stream clears it, NO_SYNC
leaves it, and WRONG_HEADER counts for its track where no escalation is to be tried. A CLEAN stream read
back from healthy cells ends the job CLEAN with its data words; one whose readout fails, with a capture
already there or another attempt of the step left, joins the list as a damaged one does. A CLEAN capture of
a CUT_THROUGH read ends the job too, where its claim is 1 or more or, with no bank retired, a capture can be
released for it; where the claim is 0 and none can, its slot is released and the job goes on. -/
def Obligations.DamagedAttemptMerged : Prop :=
  ∀ (s : State) (g : Grant) (head sector : Nat) (i : SlotId) (j : Job) (d : Delivery)
    (noise : List ReadoutNoise) (o : CheckOutcome), s.bypassOpen = true → s.grant = some g →
    g.op = .readSector head sector → g.abandoned = false → g.slots = [i] →
    (s.unit g.unit).geometry.present = true → j.kind = .sector → o = (judge g.cyl head sector d).outcome →
    (∀ n : Nat, g.holder = .job n → s.job n = some j →
      (j.list ≠ [] → o ∈ [CheckOutcome.headerCheck, .dataCheck, .dropout] →
        ∃ (t b : State) (k : Job) (m : RunningMerge), exec (.streamChecked d noise) s = .next t ∧
          t = endCommand (settleJobs b) ∧
          t.grant = none ∧ t.job n = some k ∧ k.state = .merging ∧ k.list = j.list ++ [i] ∧
          k.merges = j.merges ++ [m] ∧ m.sector = j.sector ∧ m.q = s.q ∧ m.t = s.t ∧
          (m.captures = (k.list.zipIdx 0).map fun x =>
            mergeCapture (b.slot x.1) (readPositions x.1 { b with noise := noise.drop x.2 }).1) ∧
          m.captures.length = j.list.length + 1 ∧
          (m.captures.getLast?.map MergeCapture.credit) = some j.readCredit ∧
          b.slot i = { (s.slot i).captured ⟨g.unit, g.cyl, head, sector⟩ d (judge g.cyl head sector d) with
            credit := some j.readCredit } ∧
          (t.unit g.unit).offTrack = 0 ∧ (t.unit g.unit).countedTrack = none) ∧
      (o = .noSync → ∃ t : State, exec (.streamChecked d noise) s = .next t ∧ t.grant = none ∧
        (t.unit g.unit).offTrack = (s.unit g.unit).offTrack ∧
        (t.unit g.unit).countedTrack = (s.unit g.unit).countedTrack) ∧
      (∀ count : Nat, o = .wrongHeader →
        (count = if (s.unit g.unit).countedTrack = some (g.cyl, head) then
          min 8 ((s.unit g.unit).offTrack + 1) else 1) →
        ((s.unit g.unit).geometry.escalation = 0 ∨ count < (s.unit g.unit).geometry.escalation) →
        ∃ t : State, exec (.streamChecked d noise) s = .next t ∧ t.grant = none ∧
          (t.unit g.unit).offTrack = count ∧ (t.unit g.unit).countedTrack = some (g.cyl, head)) ∧
      (∀ words : List Word, o = .clean → deliveredWords d = some words → noise = [] →
        ∃ b : State, exec (.streamChecked d noise) s = .next (endCommand (settleJobs b)) ∧
          EndedClean s b j (dataOf words) ∧ b.grant = none ∧ (b.unit g.unit).offTrack = 0 ∧
          (j.foreground = false → b.out = [] ∧ b.current = s.current) ∧
          ∀ op, j.foreground = true → s.current = some op → b.current = none ∧
            (b.unit op.unit).hold = none ∧
            b.out = [.answer op.unit (.stream (composedStream op.cyl op.head op.sector (dataOf words)))]) ∧
      ∀ (w : Nat) (rest : List ReadoutNoise), o = .clean → 3 ≤ w → w < 259 → noise = [(w, 1)] :: rest →
        (j.list ≠ [] ∨ ∃ x, (s.plans.get j.plan)[j.stepIndex - 1]? = some x ∧ j.attempt < x.attempts) →
        ∃ (b : State) (k : Job), exec (.streamChecked d noise) s = .next (endCommand (settleJobs b)) ∧
          b.job n = some k ∧ k.list = j.list ++ [i] ∧ b.grant = none ∧
          (b.slot i).credit = some j.readCredit ∧ (b.slot i).outcome = some .clean ∧
          b.notices.jobEnded = s.notices.jobEnded ∧
          (j.list ≠ [] → k.state = .merging ∧ k.merges.length = j.merges.length + 1)) ∧
    ∀ (op : ControllerOp) (words : List Word), g.holder = .relay .owned →
      s.sectorJob ⟨g.unit, g.cyl, head, sector⟩ = some j → s.current = some op → op.unit = g.unit →
      o = .clean → deliveredWords d = some words → noise = [] → s.NumbersSound → s.SlotsSound →
      s.ReservationsSound → (∀ x ∈ s.jobList, x.foreground = false) →
      ∃ b : State, exec (.streamChecked d noise) s = .next (endCommand (settleJobs b)) ∧
        b.out = [.answer g.unit (.stream words)] ∧ b.current = none ∧ b.grant = none ∧
        (b.slot i).owner ≠ some .relay ∧
        (b.unit g.unit).counters.failures = (s.unit g.unit).counters.failures ∧
        (1 ≤ s.claim j ∨ (∀ k, s.bankRetired k = false) ∧ (∃ c ∈ j.list, j.pin ≠ some c) →
          EndedClean s b j (dataOf words)) ∧
        (s.claim j = 0 → (∀ c ∈ j.list, j.pin = some c) →
          ∃ x : Job, b.job j.number = some x ∧ x.list = j.list ∧ x.state = j.state ∧
            x.merges = j.merges)

/-- R38, R42, R43: the words of a write or format pass to the drive as the controller sent them, shown at its
answer (log 44); the drive's answer ends the grant and goes to the controller, and the operation and its hold
are over. To an operation that has been abandoned it goes nowhere. -/
def Obligations.WriteAnswered : Prop :=
  ∀ (s : State) (g : Grant) (x : DriveAnswer), s.bypassOpen = true →
    s.grant = some g → (∃ head sector, g.op = .writeSector head sector ∨ g.op = .formatTrack head) →
    (g.abandoned = true →
      exec (.writeAnswer x) s = .next { s with grant := none, out := [], noise := [] }) ∧
    ∀ op : ControllerOp, g.abandoned = false → s.current = some op →
      ∃ t : State, exec (.writeAnswer x) s = .next t ∧
        t = { s with
          units := t.units, jobs := t.jobs, current := none, grant := none, out := t.out, noise := []
          items := s.items.filter fun i => !i.isOperation } ∧
        t.out = (match op.kind with
          | .write data check => [.driveWords op.unit (data ++ check.toList)]
          | .format headers => [.driveWords op.unit headers]
          | _ => []) ++ [.answer op.unit (drivesAnswer x)] ∧
        (∀ v, v ≠ op.unit → t.unit v = s.unit v) ∧
        t.unit op.unit = { s.unit op.unit with hold := none }

/-- R12, R65, R129, R131, R132: the filing and the ends of a track job's READ TRACK. A kept stream joins the
list of its sector while that has room, its words and the check unit's findings in its slot, and counts once
in the revolution; the slot of another stream is released, and one that names another track counts as
off-track. At the closing INDEX mark the grant ends, revolutions done rises by 1, a track reseek is due when
half or more of the streams named another track, and the job goes on to its next revolution while one is
left and some sector not superseded has no CLEAN capture. Otherwise each sector is settled: a CLEAN capture
that reads out clean, a merge of two captures or more, or UNRECOVERED. -/
def Obligations.RevolutionEnds : Prop :=
  ∀ (s : State) (g : Grant) (n head : Nat) (j : Job) (noise : List ReadoutNoise),
    s.bypassOpen = true → s.grant = some g → g.holder = .job n → g.op = .readTrack head →
    g.abandoned = false → s.job n = some j → j.kind = .track →
    (∀ (d : Delivery) (f : Finding) (i : SlotId) (r : SectorRow) (clean : Bool),
      (s.unit g.unit).geometry.present = true → g.slots[g.nextMark]? = some i →
      f = judgeTrack g.cyl head g.nextMark j.rows.length d → f.sector < j.rows.length →
      r = rowOf j f.sector → (clean = decide (f.outcome = .clean)) →
      ∃ (b : State) (k : Job), exec (.streamChecked d noise) s = .next (endCommand (settleJobs b)) ∧
        b.grant = some { g with nextMark := g.nextMark + 1 } ∧ b.job n = some k ∧
        (f.outcome ∈ [CheckOutcome.clean, .headerCheck, .dataCheck, .dropout] →
          k.revOffTrack = j.revOffTrack ∧
          (j.revsRequested ≤ r.list.length → k.rows = j.rows) ∧
          (r.list.length < j.revsRequested →
            b.slot i = { (s.slot i).captured ⟨g.unit, g.cyl, head, f.sector⟩ d f with
              credit := some j.readCredit } ∧
            k.rows = j.rows.set f.sector { r with
              list := r.list ++ [i]
              firstFiled := if r.firstFiled = none then some i else r.firstFiled
              firstClean := if clean = true ∧ r.firstClean = none then some i else r.firstClean
              revsCaptured := r.revsCaptured + (if r.capturedNow then 0 else 1)
              capturedNow := true
              revsClean := r.revsClean + (if clean = true ∧ r.cleanNow = false then 1 else 0)
              cleanNow := r.cleanNow || clean })) ∧
        (f.outcome = .wrongHeader ∨ f.outcome = .noSync → k.rows = j.rows ∧
          ((s.slot i).owner = some (.job n) → (b.slot i).owner = none) ∧ k.revOffTrack = j.revOffTrack +
            (if f.outcome = .wrongHeader ∧ ¬(f.named.1 = g.cyl ∧ f.named.2.1 = head) then 1 else 0))) ∧
    (∀ r : SectorRow, j.revsDone + 1 < j.revsRequested → r ∈ j.rows → r.superseded = false →
      r.firstClean = none → s.bankRetired 0 = false →
      ∃ (t : State) (k : Job), exec (.revolutionEnd noise) s = .next t ∧ t.grant = none ∧
        t.job n = some k ∧ k.revsDone = j.revsDone + 1 ∧
        k.trackReseek = (j.trackReseek || decide (j.rows.length ≤ 2 * j.revOffTrack)) ∧
        (k.state = .queued ∨ k.state = .awaiting) ∧ k.rows = j.rows) ∧
    ∀ clean : Nat → List (List Word), g.slots.length ≤ g.nextMark → j.merges = [] →
      (∀ r ∈ j.rows, r.outcome = none ∧ r.data = none) →
      (j.revsRequested ≤ j.revsDone + 1 ∨ ∀ r ∈ j.rows, r.superseded = true ∨ r.firstClean ≠ none) →
      (clean = fun x => (((rowOf j x).list.filter fun i => (s.slot i).outcome = some .clean).filterMap
        fun i => (readData i { s with noise := [] }).1)) →
      ∃ b : State, exec (.revolutionEnd []) s = .next (endCommand (settleJobs b)) ∧ b.grant = none ∧
        ((∀ x, x < j.rows.length → (rowOf j x).superseded = true ∨ clean x ≠ [] ∨
            (rowOf j x).list.length < 2) → b.job n = none ∧
              (j.foreground = false → b.notices.jobEnded = true)) ∧
        ((∃ x, x < j.rows.length ∧ (rowOf j x).superseded = false ∧ clean x = [] ∧
            2 ≤ (rowOf j x).list.length) →
          ∃ k : Job, b.job n = some k ∧ k.state = .merging ∧ k.revsDone = j.revsDone + 1 ∧
            k.rows.length = j.rows.length ∧
            ∀ x, x < j.rows.length →
              ((rowOf j x).superseded = true → (rowOf k x).outcome = some .superseded) ∧
              ((rowOf j x).superseded = false →
                (∀ data more, clean x = data :: more →
                  (rowOf k x).outcome = some .clean ∧ (rowOf k x).data = some data) ∧
                (clean x = [] → (rowOf j x).list.length < 2 →
                  (rowOf k x).outcome = some .unrecovered) ∧
                (clean x = [] → 2 ≤ (rowOf j x).list.length → (rowOf k x).outcome = none ∧
                  ∃ m ∈ k.merges, m.sector = x ∧ m.q = s.q ∧ m.t = s.t ∧
                    m.captures = (rowOf j x).list.map fun i =>
                      mergeCapture (s.slot i) (readPositions i { s with noise := [] }).1)))

/-- R36, R79, R87, R102 to R104, R132, R133, R143, R166: a merge that recovers a sector job's sector ends
the job; the store holds its data under the verdict's origin and the unit's generation, RECOVERED rises,
JOB_ENDED is set, and a controller held for it is answered with a composed stream of the data. Any other
verdict is written, and the job goes on: to the next attempt or the next step, or, restarted meanwhile, to
the first attempt where the restart has put it. A plan exhausted asks for a final merge while a capture has
joined since, and otherwise the job ends UNRECOVERED, as it does after a final merge, and a held controller
gets the fallback capture word for word, or NO DATA where there is none or its readout fails (R35, R37). A
verdict on a track job's sector gives the sector its outcome and a recovering one its data; the last one ends
the job COMPLETED, RECOVERED and UNRECOVERED rise by its sectors of each kind, and each sector recovered, or
CLEAN in less than half of its revolutions, enters the store while it has room and no redirected entry stands
there. The record tells each sector's outcome and whether it was stored. A controller held for a sector with
data gets a composed stream of them, otherwise the first capture filed of the sector word for word; where
there is none, or it is not read out, the read is taken up again (log 58). -/
def Obligations.RecoveringVerdictEndsJob : Prop :=
  ∀ (s : State) (n k : Nat) (j : Job) (m : RunningMerge) (v : Verdict) (data : List Word)
    (noise : List ReadoutNoise) (left : List RunningMerge), s.bypassOpen = true → s.job n = some j →
    (j.merges.find? fun x => x.sector = k) = some m → mergeVerdictOf m.q m.t m.captures = (v, data) →
    (left = j.merges.filter fun x => x.sector ≠ k) →
    (j.kind = .sector → recovering v = true → s.bankRetired 0 = false →
      (s.store.length < 64 ∨ ∃ e ∈ s.store, e.key = ⟨j.unit, j.cyl, j.head, j.sector⟩) →
      (∀ e ∈ s.store, e.key = ⟨j.unit, j.cyl, j.head, j.sector⟩ → e.origin ≠ .redirectedWrite) →
      ∃ t : State, exec (.mergeVerdict n k noise) s = .next t ∧ t.job n = none ∧
        t.notices.jobEnded = true ∧
        (t.unit j.unit).counters.recovered = min 4095 ((s.unit j.unit).counters.recovered + 1) ∧
        (j.foreground = false → t.out = [] ∧ t.current = s.current) ∧
        (∀ op, j.foreground = true → s.current = some op → t.current = none ∧
          (t.unit op.unit).hold = none ∧
          t.out = [.answer op.unit (.stream (composedStream op.cyl op.head op.sector data))]) ∧
        ∃ e ∈ t.store, e.key = ⟨j.unit, j.cyl, j.head, j.sector⟩ ∧
          e.origin = (match v with
            | .byVote => .vote
            | .byTrial => .trial
            | _ => .fill) ∧
          e.data = data.map storeWord ∧ e.check = storeWord (wordSum data) ∧ e.hits = 0 ∧
          e.damaged = false ∧ e.generation = (s.unit j.unit).generation) ∧
    (∀ (x : PlanStep) (next : Job) (exhausted : Prop), j.kind = .sector → recovering v = false →
      (s.plans.get j.plan)[j.stepIndex - 1]? = some x →
      next = { j with
        lastVerdict := some v, report := some (disputeReport m.q m.captures v data)
        merged := m.captures.length, merges := left, state := .queued
        actionSecond := false, actionDone := false, claimChecked := false, restarted := false } →
      (exhausted = (j.restarted = false ∧ x.attempts ≤ j.attempt ∧
        (s.plans.get j.plan).length ≤ j.stepIndex)) →
      ∃ b : State, exec (.mergeVerdict n k noise) s = .next (endCommand (settleJobs b)) ∧
        (j.finalMerge = false → ¬exhausted → b = { s with jobs := b.jobs, out := [], noise := noise } ∧
          b.job n = some (
            if j.restarted then next
            else if j.attempt < x.attempts then { next with attempt := j.attempt + 1 }
            else { next with stepIndex := j.stepIndex + 1, attempt := 1, headerMark := .none })) ∧
        (j.finalMerge = false → exhausted → 2 ≤ j.list.length → j.joined = true →
          ∃ (y : Job) (final : RunningMerge), b.job n = some y ∧ y.state = .merging ∧
            y.finalMerge = true ∧ y.joined = false ∧ y.lastVerdict = some v ∧ y.list = j.list ∧
            y.merges = left ++ [final] ∧ final.sector = j.sector ∧ final.q = s.q ∧ final.t = s.t ∧
            final.captures = (j.list.zipIdx 0).map fun i =>
              mergeCapture (s.slot i.1) (readPositions i.1 { s with noise := noise.drop i.2 }).1) ∧
        (j.finalMerge = true ∨ exhausted ∧ (j.list.length < 2 ∨ j.joined = false) →
          b.job n = none ∧ b.notices.jobEnded = true ∧ b.store = s.store ∧
          (b.unit j.unit).counters.unrecovered = min 4095 ((s.unit j.unit).counters.unrecovered + 1) ∧
          (s.records.length < 128 → ∃ r : SectorRecord, .sector r ∈ b.records ∧ r.job = n ∧
            r.result = .unrecovered ∧ r.lastVerdict = some v ∧ r.merged = m.captures.length) ∧
          (j.foreground = false → b.out = [] ∧ b.current = s.current) ∧
          ∀ op, j.foreground = true → s.current = some op → b.current = none ∧
            (b.unit op.unit).hold = none ∧
            b.out = [.answer op.unit
              (match (fallbackCapture j).bind fun i => (readWhole i (beginCommand noise s)).1 with
                | some words => .stream words
                | none => .noData)])) ∧
    ∀ (rows : List SectorRow) (kept : SectorRow → Bool) (key : Nat → Addr)
      (origin : SectorRow → StoreOrigin), j.kind = .track → k < j.rows.length →
      rows = j.rows.set k { rowOf j k with
        outcome := some (match v with
          | .byVote => .byVote
          | .byTrial => .byTrial
          | .byFill => .byFill
          | _ => .unrecovered)
        data := if recovering v then some data else none } →
      (kept = fun r => !r.superseded && decide (r.outcome = some .byVote ∨ r.outcome = some .byTrial ∨
        r.outcome = some .byFill ∨ r.outcome = some .clean ∧ 2 * r.revsClean < r.revsCaptured)) →
      (key = fun x => ⟨j.unit, j.cyl, j.head, x⟩) →
      (origin = fun r => match r.outcome with
        | some .byVote => .vote
        | some .byTrial => .trial
        | some .byFill => .fill
        | _ => .cleanMajority) →
      ∃ b : State, exec (.mergeVerdict n k noise) s = .next (endCommand (settleJobs b)) ∧
        (left ≠ [] → ∃ x, b.job n = some x ∧ x.rows = rows ∧ x.merges = left ∧ x.state = j.state) ∧
        (∀ (op : ControllerOp) (words : List Word), left = [] → j.foreground = true →
          s.current = some op → (rows.getD op.sector SectorRow.empty).data = some words →
          b.current = none ∧ (b.unit op.unit).hold = none ∧
          b.out = [.answer op.unit (.stream (composedStream op.cyl op.head op.sector words))]) ∧
        (∀ (op : ControllerOp) (words : Option (List Word)), left = [] → j.foreground = true →
          s.current = some op → (rows.getD op.sector SectorRow.empty).data = none →
          (words = (rows.getD op.sector SectorRow.empty).firstFiled.bind fun i =>
            (readWhole i (beginCommand noise s)).1) →
          (∀ l, words = some l → b.current = none ∧ (b.unit op.unit).hold = none ∧
            b.out = [.answer op.unit (.stream l)]) ∧
          (words = none → ∃ r : State, b = takeRead op.unit op.head op.sector r ∧ r.out = [] ∧
            r.current = none ∧ (r.unit op.unit).hold = none ∧ r.job n = none)) ∧
        (left = [] → s.store.length + rows.countP kept ≤ 64 →
          (∀ (x : Nat) (r : SectorRow), rows[x]? = some r → kept r = true →
            (∀ e ∈ s.store, e.key = key x → e.origin ≠ .redirectedWrite) →
            (∀ op, j.foreground = true → s.current = some op → x = op.sector → r.data ≠ none) →
            ∃ e ∈ b.store, e.key = key x ∧ e.origin = origin r ∧
              e.data = (r.data.getD []).map storeWord ∧ e.check = storeWord (wordSum (r.data.getD [])) ∧
              e.hits = 0 ∧ e.damaged = false ∧ e.generation = (s.unit j.unit).generation) ∧
          (j.foreground = false → ∀ e ∈ s.store,
            e.origin = .redirectedWrite ∨ (∀ x r, rows[x]? = some r → kept r = true → e.key ≠ key x) →
            e ∈ b.store)) ∧
        (left = [] → j.foreground = false → ∀ e ∈ b.store, e ∈ s.store ∨
          ∃ x r, rows[x]? = some r ∧ kept r = true ∧ e.key = key x) ∧
        (left = [] → b.job n = none ∧ (j.foreground = false → b.notices.jobEnded = true) ∧
          (b.unit j.unit).counters.recovered =
            min 4095 ((s.unit j.unit).counters.recovered + rows.countP kept) ∧
          (b.unit j.unit).counters.unrecovered =
            min 4095 ((s.unit j.unit).counters.unrecovered + rows.countP fun r =>
              !r.superseded && decide (r.outcome = none ∨ r.outcome = some .unrecovered)) ∧
          (s.records.length < 128 → ∃ r : TrackRecord, .track r ∈ b.records ∧ r.job = n ∧
            r.result = .completed ∧ r.sectors.length = j.rows.length ∧
            ∀ (x : Nat) (row : SectorRow), rows[x]? = some row → ∃ stored : Bool,
              r.sectors[x]? = some (if row.superseded then .superseded
                else row.outcome.getD .unrecovered, stored) ∧
              (kept row = false → stored = false) ∧
              (s.StoreSound → kept row = true → (∃ e ∈ s.store, e.key = key x ∧
                e.origin = .redirectedWrite) → stored = false) ∧
              (kept row = true → s.store.length + rows.countP kept ≤ 64 →
                (∀ e ∈ s.store, e.key = key x → e.origin ≠ .redirectedWrite) → stored = true)))

/-! ### Requests (R168 to R183): a request command is a whole maintenance write (log 16) -/

/-- R171: REPORT STATUS answers the 183 words of the status report layout (11.4) and changes nothing but the
response. The waiting reason of a job is the one R77 and R46 give, in the order that log 49 names: none
without a request or while its own seek is under way; SLOT in AWAITING without its slots; READY while its
unit's READY is down or a DRIVE FAULT shows; CABLE while the unit is in motion, claimed, or owned by another
job, this one not being the foreground job, or the cable is in use; otherwise none. -/
def Obligations.StatusReported : Prop :=
  ∀ (s a : State) (tag : Word), s.bypassOpen = true → a = s.taken [] →
    ∃ (t : State) (report : List Word), exec (.reportStatus tag) s = .next t ∧
      t = a.replied 1 tag 1 report ∧ report.length = 183 ∧ report.take 2 = [0o640, 1] ∧
      (∀ u : UnitNo, (report.drop (2 + 22 * u.val)).take 22 =
        [if (a.unit u).geometry.present then 1 else 0, BitVec.ofNat 12 (a.unit u).geometry.cylinders,
         BitVec.ofNat 12 (a.unit u).geometry.heads, BitVec.ofNat 12 (a.unit u).geometry.sectors,
         BitVec.ofNat 12 (a.unit u).geometry.plan.val, BitVec.ofNat 12 (a.unit u).geometry.retryLimit,
         BitVec.ofNat 12 (a.unit u).geometry.escalation,
         match (a.unit u).geometry.mode with
           | .checkFirst => 0
           | .cutThrough => 1,
         match (a.unit u).policy with
           | .pass => 0
           | .block => 1
           | .redirect => 2,
         if u = a.controllerUnit then 0o1777 else
           ((a.unit u).controllerCyl.map (BitVec.ofNat 12)).getD 0o7777,
         ((a.unit u).driveCyl.map (BitVec.ofNat 12)).getD 0o7777,
         if (a.unit u).ready then 1 else 0, (a.unit u).generation,
         BitVec.ofNat 12 (a.unit u).counters.reads, BitVec.ofNat 12 (a.unit u).counters.failures,
         BitVec.ofNat 12 (a.unit u).counters.recovered, BitVec.ofNat 12 (a.unit u).counters.unrecovered,
         BitVec.ofNat 12 (a.unit u).counters.storeHits, BitVec.ofNat 12 (a.unit u).counters.writesBlocked,
         BitVec.ofNat 12 (a.unit u).counters.writesRedirected,
         BitVec.ofNat 12 (a.unit u).counters.writesSuperseding,
         BitVec.ofNat 12 (a.unit u).counters.fallbacks]) ∧
      (report.drop 90).take 13 =
        [BitVec.ofNat 12 a.q, BitVec.ofNat 12 a.t, BitVec.ofNat 12 a.holdLimit,
         BitVec.ofNat 12 a.freeCount, BitVec.ofNat 12 a.totalReserved, BitVec.ofNat 12 a.retiredCount,
         BitVec.ofNat 12 (a.banks.get 0).parity, BitVec.ofNat 12 (a.banks.get 1).parity,
         BitVec.ofNat 12 ((if (a.banks.get 0).retired then 1 else 0) +
           (if (a.banks.get 1).retired then 2 else 0)),
         BitVec.ofNat 12 a.store.length, BitVec.ofNat 12 (a.store.filter Entry.pinned).length,
         if a.storeFull then 1 else 0, BitVec.ofNat 12 a.records.length] ∧
      ∀ e : Fin 8,
        (a.jobs.get e = none → (report.drop (103 + 10 * e.val)).take 10 = List.replicate 10 0) ∧
        ∀ j : Job, a.jobs.get e = some j → (report.drop (103 + 10 * e.val)).take 10 =
          [BitVec.ofNat 12 j.number,
           BitVec.ofNat 12 ((match j.kind with
               | .sector => 1024
               | .track => 2048) +
             (match j.origin with
               | .readFailure => 256
               | .request => 512
               | .escalation => 768) + if j.foreground then 1 else 0),
           BitVec.ofNat 12 ((if j.repositionNeeded then 2048 else 0) +
             (if j.asks = false ∨ a.seeksOwn j = true then 0
               else if j.state = .awaiting ∧ j.slotsMissing = true then 48
               else if (a.unit j.unit).ready = false ∨ (a.unit j.unit).faultLine = true then 32
               else if (a.unit j.unit).motion ≠ none ∨ a.unitClaimed j.unit = true ∨
                 ((a.unit j.unit).owner ≠ none ∧ (a.unit j.unit).owner ≠ some j.number ∧
                   j.foreground = false) ∨ a.grant ≠ none then 16
               else 0) +
             match j.state with
               | .queued => 1
               | .positioning => 2
               | .awaiting => 3
               | .capturing => 4
               | .merging => 5),
           BitVec.ofNat 12 (j.unit.val * 512 + j.head * 32 + if j.kind = .track then 0 else j.sector),
           BitVec.ofNat 12 j.cyl,
           match j.kind with
             | .sector => BitVec.ofNat 12 (j.stepIndex * 16 + j.attempt)
             | .track => BitVec.ofNat 12 (j.revsDone * 16 + j.revsRequested),
           match j.kind with
             | .sector => BitVec.ofNat 12 j.list.length
             | .track => BitVec.ofNat 12 (j.rows.map fun (r : SectorRow) => r.list.length).sum,
           BitVec.ofNat 12 j.reservation,
           if j.kind = .track then 0 else match j.lastVerdict with
             | none => 0
             | some .byVote => 1
             | some .byTrial => 2
             | some .byFill => 3
             | some .conflict => 4
             | some .ambiguous => 5
             | some .unverified => 6
             | some .unresolved => 7,
           match j.kind with
             | .sector => BitVec.ofNat 12 j.attemptsMade
             | .track => BitVec.ofNat 12 j.reseeks]

/-- R172: LOAD GEOMETRY with its fields in range writes the unit's geometry entry and clears its off-track
count; UNIT_BUSY when the unit has a job or a pending seek; BAD_FIELD for a field out of range. -/
def Obligations.GeometryLoaded : Prop :=
  ∀ (s a : State) (tag unit present cylinders heads sectors plan retries escalation mode : Word)
    (good : Prop), s.bypassOpen = true → a = s.taken [] →
    good = (unit.toNat ≤ 3 ∧ present.toNat ≤ 1 ∧ 1 ≤ cylinders.toNat ∧ cylinders.toNat ≤ 1000 ∧
      1 ≤ heads.toNat ∧ heads.toNat ≤ 16 ∧ 8 ≤ sectors.toNat ∧ sectors.toNat ≤ 24 ∧ plan.toNat ≤ 3 ∧
      retries.toNat ≤ 3 ∧ mode.toNat ≤ 1) →
    (¬good → exec (.loadGeometry tag unit present cylinders heads sectors plan retries escalation mode) s =
      .next (a.replied 2 tag 5 [])) ∧
    ∀ (u : UnitNo) (p : Fin 4), good → unit.toNat = u.val → plan.toNat = p.val →
      (((∃ j ∈ a.jobList, j.unit = u) ∨ (a.unit u).seekPending = true) →
        exec (.loadGeometry tag unit present cylinders heads sectors plan retries escalation mode) s =
          .next (a.replied 2 tag 6 [])) ∧
      ((∀ j ∈ a.jobList, j.unit ≠ u) → (a.unit u).seekPending = false →
        exec (.loadGeometry tag unit present cylinders heads sectors plan retries escalation mode) s =
          .next ({ a with units := a.units.set u { a.unit u with
            geometry := { present := decide (present.toNat = 1), cylinders := cylinders.toNat,
                          heads := heads.toNat, sectors := sectors.toNat, plan := p,
                          retryLimit := retries.toNat, escalation := min 8 escalation.toNat,
                          mode := if mode.toNat = 0 then .checkFirst else .cutThrough }
            offTrack := 0, countedTrack := none } }.replied 2 tag 1
              [BitVec.ofNat 12 (min 8 escalation.toNat)]))

/-- R173: LOAD PLAN replaces one plan whole by the steps as taken, their codes as they are and their attempts
and credits clamped, unless a job uses it (PLAN_IN_USE); a bad plan number, length or coded field is
BAD_FIELD. Words of steps beyond the length are not read. -/
def Obligations.PlanLoaded : Prop :=
  ∀ (s a : State) (tag plan length : Word) (steps : List StepWords), s.bypassOpen = true →
    a = s.taken [] →
    ((3 < plan.toNat ∨ length.toNat = 0 ∨ 12 < length.toNat ∨
        ∃ k, k < length.toNat ∧ (2 < (stepWordsAt steps k).strobe.toNat ∨
          2 < (stepWordsAt steps k).offset.toNat ∨ 2 < (stepWordsAt steps k).reposition.toNat)) →
      exec (.loadPlan tag plan length steps) s = .next (a.replied 3 tag 5 [])) ∧
    ∀ (p : Fin 4) (l : List PlanStep), plan.toNat = p.val → 1 ≤ length.toNat → length.toNat ≤ 12 →
      (∀ k, k < length.toNat → (stepWordsAt steps k).strobe.toNat ≤ 2 ∧
        (stepWordsAt steps k).offset.toNat ≤ 2 ∧ (stepWordsAt steps k).reposition.toNat ≤ 2) →
      (l = (List.range length.toNat).map fun k => givenStep (stepWordsAt steps k)) →
      ((∃ j ∈ a.jobList, j.plan = p) →
        exec (.loadPlan tag plan length steps) s = .next (a.replied 3 tag 7 [])) ∧
      ((∀ j ∈ a.jobList, j.plan ≠ p) →
        exec (.loadPlan tag plan length steps) s =
          .next ({ a with plans := a.plans.set p l }.replied 3 tag 1
            (l.flatMap fun (x : PlanStep) => [BitVec.ofNat 12 x.attempts, BitVec.ofNat 12 x.credit])))

/-- R174: SET POLICY takes every step but PASS to REDIRECT and REDIRECT to PASS (POLICY_STEP), and BLOCK to
PASS while the store holds a redirected entry of the unit (REDIRECTS_PRESENT); a bad unit or code is
BAD_FIELD. -/
def Obligations.PolicySet : Prop :=
  ∀ (s a : State) (tag unit code : Word), s.bypassOpen = true → a = s.taken [] →
    ((3 < unit.toNat ∨ 2 < code.toNat) →
      exec (.setPolicy tag unit code) s = .next (a.replied 4 tag 5 [])) ∧
    ∀ (u : UnitNo) (p : Policy), unit.toNat = u.val → policyField code = some p →
      (((a.unit u).policy = .pass ∧ p = .redirect ∨ (a.unit u).policy = .redirect ∧ p = .pass) →
        exec (.setPolicy tag unit code) s = .next (a.replied 4 tag 8 [])) ∧
      ((a.unit u).policy = .block → p = .pass →
        (∃ e ∈ a.store, e.origin = .redirectedWrite ∧ e.key.unit = u) →
        exec (.setPolicy tag unit code) s = .next (a.replied 4 tag 15 [])) ∧
      (¬((a.unit u).policy = .pass ∧ p = .redirect) → ¬((a.unit u).policy = .redirect ∧ p = .pass) →
        ¬((a.unit u).policy = .block ∧ p = .pass ∧
          ∃ e ∈ a.store, e.origin = .redirectedWrite ∧ e.key.unit = u) →
        exec (.setPolicy tag unit code) s =
          .next ({ a with units := a.units.set u { a.unit u with policy := p } }.replied 4 tag 1 [code]))

/-- R175: SET LIMITS is always carried out, brings Q, T and H to their ranges, reports the values taken, and
changes nothing else: the jobs, their running merges among them, and the holds stay as they are. -/
def Obligations.LimitsSet : Prop :=
  ∀ (s a : State) (tag q t h : Word), s.bypassOpen = true → a = s.taken [] →
    exec (.setLimits tag q t h) s = .next ({ a with
      q := max 1 (min 56 q.toNat), t := min 4 t.toNat, holdLimit := max 1 (min 64 h.toNat) }.replied 5 tag 1
        [BitVec.ofNat 12 (max 1 (min 56 q.toNat)), BitVec.ofNat 12 (min 4 t.toNat),
         BitVec.ofNat 12 (max 1 (min 64 h.toNat))])

/-- R75, R176: RECOVER SECTOR inside a present unit's geometry creates a REQUEST job with an empty list,
unless the track is COVERED, the table is full or the reservation is refused; an address outside is
BAD_FIELD. An address that a sector job owns restarts that job: step and attempt are 1 again, verdict,
result, report and captures merged are cleared, the origin is REQUEST, and list, pin, foreground flag,
reservation, attempts made and held revolutions stay. That a reposition action under way or made begins
again, and that a motion in flight and its retry then serve none, is the model's choice, and so is that a
slot the job has FILLING stays for attempt 1 (log 54). A created or restarted job then finds where it stands
(log 11). -/
def Obligations.SectorRecoveryAsked : Prop :=
  ∀ (s a : State) (tag unit cyl head sector : Word), s.bypassOpen = true → a = s.taken [] →
    (3 < unit.toNat → exec (.recoverSector tag unit cyl head sector) s = .next (a.replied 6 tag 5 [])) ∧
    ∀ (u : UnitNo) (k : Addr), unit.toNat = u.val → k = ⟨u, cyl.toNat, head.toNat, sector.toNat⟩ →
      (¬((a.unit u).geometry.present = true ∧ k.cyl < (a.unit u).geometry.cylinders ∧
          k.head < (a.unit u).geometry.heads ∧ k.sector < (a.unit u).geometry.sectors) →
        exec (.recoverSector tag unit cyl head sector) s = .next (a.replied 6 tag 5 [])) ∧
      ((a.unit u).geometry.present = true → k.cyl < (a.unit u).geometry.cylinders →
        k.head < (a.unit u).geometry.heads → k.sector < (a.unit u).geometry.sectors →
        (a.trackJob u k.cyl k.head ≠ none →
          exec (.recoverSector tag unit cyl head sector) s = .next (a.replied 6 tag 11 [])) ∧
        (a.trackJob u k.cyl k.head = none →
          (∀ j, a.sectorJob k = some j → ∃ b : State,
            exec (.recoverSector tag unit cyl head sector) s =
              .next ((settleJobs b).replied 6 tag 1 [BitVec.ofNat 12 j.number, 1]) ∧
            b = { a with jobs := b.jobs, units := b.units } ∧
            (∀ v, b.unit v = { a.unit v with
              motion := (b.unit v).motion, recovery := (b.unit v).recovery }) ∧
            (∀ v, (b.unit v).motion.map (fun (m : Motion) => { m with forAction := false }) =
                (a.unit v).motion.map (fun (m : Motion) => { m with forAction := false }) ∧
              (b.unit v).recovery.map (fun (r : Recovery) => { r with forAction := false }) =
                (a.unit v).recovery.map (fun (r : Recovery) => { r with forAction := false })) ∧
            (∀ x ∈ a.jobList, x.number ≠ j.number → x ∈ b.jobList) ∧
            ∃ x ∈ b.jobList, x = { j with
              stepIndex := 1, attempt := 1, lastVerdict := none, data := none, report := none, merged := 0
              origin := .request, headerMark := .none
              actionSecond := false, actionDone := false, joined := true, finalMerge := false
              restarted := decide (j.state = .capturing ∨ j.state = .merging) }) ∧
          (a.sectorJob k = none → a.emptyEntry = none →
            exec (.recoverSector tag unit cyl head sector) s = .next (a.replied 6 tag 9 [])) ∧
          (a.sectorJob k = none → a.emptyEntry ≠ none → a.sectorGrant false = none →
            exec (.recoverSector tag unit cyl head sector) s = .next (a.replied 6 tag 10 [])) ∧
          ∀ size, a.sectorJob k = none → a.emptyEntry ≠ none → a.sectorGrant false = some size →
            ∃ (b : State) (j : Job), exec (.recoverSector tag unit cyl head sector) s =
                .next ((settleJobs b).replied 6 tag 1 [BitVec.ofNat 12 j.number, 0]) ∧
              b.job j.number = some j ∧ a.job j.number = none ∧ j.kind = .sector ∧ j.unit = u ∧
              j.cyl = k.cyl ∧ j.head = k.head ∧ j.sector = k.sector ∧ j.origin = .request ∧
              j.state = .queued ∧ j.foreground = false ∧ j.list = [] ∧ j.pin = none ∧
              j.stepIndex = 1 ∧ j.attempt = 1 ∧ j.reservation = size ∧
              j.plan = (a.unit u).geometry.plan ∧
              b = { a with jobs := b.jobs, nextJob := j.number % 255 + 1 }))

/-- R37, R74, R76, R91, R92, R124, R125, R177: RECOVER TRACK that capture memory grants makes a track job of
2 or more revolutions, no more than asked for after the clamp to 2 to 8, and leaves no sector job on the
track; a unit above 3, one not present and a track outside the geometry are BAD_FIELD, a track with a track
job is COVERED, and without an entry or a grant the request is refused. A WRONG_HEADER that brings a present
unit's off-track count to its escalation threshold makes a track job of origin ESCALATION the same way, at
up to 4 revolutions, and clears the count; without a grant the count stands. So it does at the end of the
stream of a sector job's own read, which goes no further, of a pass read, and of a read of an address that a
sector job owns (abandoned, by log 21): a controller held for an ended sector job, or waiting for the check
of its read, is held for the track job, the hold a WAIT hold with its count at 0 and its revolutions kept
(R37, R74), and hears nothing. The count of a track that has a track job already is cleared (R125, log
48). -/
def Obligations.TrackRecoveryAsked : Prop :=
  (∀ (s a : State) (tag unit cyl head revolutions : Word), s.bypassOpen = true → a = s.taken [] →
    (3 < unit.toNat ∨ ∃ u : UnitNo, unit.toNat = u.val ∧ ((a.unit u).geometry.present = false ∨
      (a.unit u).geometry.cylinders ≤ cyl.toNat ∨ (a.unit u).geometry.heads ≤ head.toNat)) →
    exec (.recoverTrack tag unit cyl head revolutions) s = .next (a.replied 7 tag 5 [])) ∧
  (∀ (s a : State) (tag unit cyl head revolutions : Word) (u : UnitNo), s.bypassOpen = true →
    a = s.taken [] → unit.toNat = u.val → (a.unit u).geometry.present = true →
    cyl.toNat < (a.unit u).geometry.cylinders → head.toNat < (a.unit u).geometry.heads →
    1 ≤ (a.unit u).geometry.sectors →
    (a.trackJob u cyl.toNat head.toNat ≠ none →
      exec (.recoverTrack tag unit cyl head revolutions) s = .next (a.replied 7 tag 11 [])) ∧
    (a.trackJob u cyl.toNat head.toNat = none → a.sectorJobsOn u cyl.toNat head.toNat = [] →
      a.emptyEntry = none →
      exec (.recoverTrack tag unit cyl head revolutions) s = .next (a.replied 7 tag 9 [])) ∧
    (a.trackJob u cyl.toNat head.toNat = none →
      (a.sectorJobsOn u cyl.toNat head.toNat ≠ [] ∨ a.emptyEntry ≠ none) →
      a.trackGrant u (max 2 (min 8 revolutions.toNat)) (a.sectorJobsOn u cyl.toNat head.toNat) = none →
      exec (.recoverTrack tag unit cyl head revolutions) s = .next (a.replied 7 tag 10 [])) ∧
    ∀ size, a.trackJob u cyl.toNat head.toNat = none →
      (a.sectorJobsOn u cyl.toNat head.toNat ≠ [] ∨ a.emptyEntry ≠ none) →
      a.trackGrant u (max 2 (min 8 revolutions.toNat)) (a.sectorJobsOn u cyl.toNat head.toNat) =
        some size →
      ∃ (b : State) (j : Job), exec (.recoverTrack tag unit cyl head revolutions) s =
          .next ((settleJobs b).replied 7 tag 1 [BitVec.ofNat 12 j.number,
            BitVec.ofNat 12 (max 2 (min 8 revolutions.toNat)), BitVec.ofNat 12 j.revsRequested]) ∧
        b.trackJob u cyl.toNat head.toNat = some j ∧ b.sectorJobsOn u cyl.toNat head.toNat = [] ∧
        j.origin = .request ∧ j.state = .queued ∧ j.reservation = size ∧
        j.revsRequested * (a.unit u).geometry.sectors = size ∧ 2 ≤ j.revsRequested ∧
        j.revsRequested ≤ max 2 (min 8 revolutions.toNat) ∧
        j.rows.length = (a.unit u).geometry.sectors) ∧
  (∀ (s t : State) (k : Addr) (count : Nat), t = feedOffTrack k .wrongHeader s →
    (count = if (s.unit k.unit).countedTrack = some (k.cyl, k.head) then
      min 8 ((s.unit k.unit).offTrack + 1) else 1) →
    (s.unit k.unit).geometry.present = true → 1 ≤ (s.unit k.unit).geometry.sectors →
    1 ≤ (s.unit k.unit).geometry.escalation → (s.unit k.unit).geometry.escalation ≤ count →
    s.trackJob k.unit k.cyl k.head = none →
    ((s.sectorJobsOn k.unit k.cyl k.head = [] ∧ s.emptyEntry = none ∨
        s.trackGrant k.unit 4 (s.sectorJobsOn k.unit k.cyl k.head) = none) →
      t = { s with units := s.units.set k.unit { s.unit k.unit with
        offTrack := count, countedTrack := some (k.cyl, k.head) } }) ∧
    ∀ size, (s.sectorJobsOn k.unit k.cyl k.head ≠ [] ∨ s.emptyEntry ≠ none) →
      s.trackGrant k.unit 4 (s.sectorJobsOn k.unit k.cyl k.head) = some size →
      (t.unit k.unit).offTrack = 0 ∧ (t.unit k.unit).countedTrack = none ∧
      t.sectorJobsOn k.unit k.cyl k.head = [] ∧
      (s.records.length + (s.sectorJobsOn k.unit k.cyl k.head).length ≤ 128 →
        ∀ x ∈ s.sectorJobsOn k.unit k.cyl k.head, s.NumbersSound →
          ∃ r : SectorRecord, .sector r ∈ t.records ∧ r.job = x.number ∧ r.result = .escalated) ∧
      ∃ j, t.trackJob k.unit k.cyl k.head = some j ∧ j.origin = .escalation ∧ j.state = .queued ∧
        j.reservation = size ∧ j.revsRequested * (s.unit k.unit).geometry.sectors = size ∧
        2 ≤ j.revsRequested ∧ j.revsRequested ≤ 4 ∧ j.rows.length = (s.unit k.unit).geometry.sectors) ∧
  ∀ (s a : State) (g : Grant) (d : Delivery) (noise : List ReadoutNoise) (head sector count : Nat)
    (ended : List Job) (own waits : Bool), s.bypassOpen = true → s.grant = some g →
    g.op = .readSector head sector → (s.unit g.unit).geometry.present = true →
    1 ≤ (s.unit g.unit).geometry.sectors → (judge g.cyl head sector d).outcome = .wrongHeader →
    (count = if (s.unit g.unit).countedTrack = some (g.cyl, head) then
      min 8 ((s.unit g.unit).offTrack + 1) else 1) →
    1 ≤ (s.unit g.unit).geometry.escalation → (s.unit g.unit).geometry.escalation ≤ count →
    g.slots.length ≤ 1 → a = releaseSlots g.slots s → ended = a.sectorJobsOn g.unit g.cyl head →
    (own = true → g.abandoned = false ∧ ∃ (n : Nat) (j : Job), g.holder = .job n ∧ s.job n = some j ∧
      j.kind = .sector ∧ j.unit = g.unit ∧ j.cyl = g.cyl ∧ j.head = head) →
    (own = false → (g.holder = .relay .pass ∨
        g.holder = .relay .owned ∧ s.sectorJob ⟨g.unit, g.cyl, head, sector⟩ ≠ none) ∧
      (g.abandoned = false → (∀ j ∈ s.jobList, j.foreground = false) ∧
        ∃ op, s.current = some op ∧ op.unit = g.unit)) →
    (waits = true ↔ g.holder = .relay .pass ∧ g.slots ≠ [] ∧ g.abandoned = false ∧
      (s.unit g.unit).geometry.mode = .checkFirst) →
    ∃ b : State, exec (.streamChecked d noise) s = .next (endCommand (settleJobs b)) ∧ b.grant = none ∧
      (s.trackJob g.unit g.cyl head ≠ none → own = false →
        (b.unit g.unit).offTrack = 0 ∧ (b.unit g.unit).countedTrack = none) ∧
      (s.trackJob g.unit g.cyl head = none →
        (ended = [] ∧ s.emptyEntry = none ∨ a.trackGrant g.unit 4 ended = none) →
        (b.unit g.unit).offTrack = count ∧ (b.unit g.unit).countedTrack = some (g.cyl, head)) ∧
      ∀ size, s.trackJob g.unit g.cyl head = none → (ended ≠ [] ∨ s.emptyEntry ≠ none) →
        a.trackGrant g.unit 4 ended = some size →
        (b.unit g.unit).offTrack = 0 ∧ (b.unit g.unit).countedTrack = none ∧
        b.sectorJobsOn g.unit g.cyl head = [] ∧
        (g.holder = .relay .pass → (b.unit g.unit).counters.failures =
          min 4095 ((s.unit g.unit).counters.failures + 1)) ∧
        (waits = true → b.out = [] ∧ b.current = s.current.map fun (op : ControllerOp) =>
          { op with kind := .read .held, slot := none, issued := false }) ∧
        (waits = false → (own = true ∨ g.abandoned = true) → b.out = [] ∧ b.current = s.current) ∧
        (waits = false → own = false → g.abandoned = false →
          b.out = [.answer g.unit (sentAnswer d)] ∧ b.current = none) ∧
        ∃ j, b.trackJob g.unit g.cyl head = some j ∧ j.origin = .escalation ∧ j.state = .queued ∧
          j.reservation = size ∧ j.revsRequested * (s.unit g.unit).geometry.sectors = size ∧
          2 ≤ j.revsRequested ∧ j.revsRequested ≤ 4 ∧
          j.foreground = (waits || ended.any Job.foreground) ∧
          (j.foreground = true → (b.unit g.unit).hold =
            (s.unit g.unit).hold.map fun (h : Hold) => { h with kind := .wait, count := 0 })

/-- R14, R62, R87, R89, R90, R137, R178: CANCEL JOB of a job in the table ends it CANCELLED: its record is
posted, a track job's with no outcome but SUPERSEDED and UNRECOVERED and nothing stored, and JOB_ENDED is set;
its slots are FREE or, in a retired bank, RETIRED, and no job of that number is left. Its read on the cable
runs on, abandoned; its own seek finishes for no one and is not retried, and it owns no unit. The other jobs
are as they were but for what their reservations get back. A number no job bears is NO_SUCH_JOB, one outside 1
to 255 BAD_FIELD. At the end of an abandoned READ SECTOR of a job, and at the closing INDEX mark of an
abandoned READ TRACK, the grant ends and nothing else follows; nothing at all follows a stream of such a READ
TRACK. Every job then finds where it stands (log 11). -/
def Obligations.JobCancelled : Prop :=
  (∀ (s a : State) (tag n : Word), s.bypassOpen = true → a = s.taken [] →
    ((n.toNat = 0 ∨ 255 < n.toNat) → exec (.cancelJob tag n) s = .next (a.replied 8 tag 5 [])) ∧
    (1 ≤ n.toNat → n.toNat ≤ 255 → a.job n.toNat = none →
      exec (.cancelJob tag n) s = .next (a.replied 8 tag 12 [])) ∧
    (1 ≤ n.toNat → n.toNat ≤ 255 → a.job n.toNat ≠ none →
      ∃ t : State, exec (.cancelJob tag n) s = .next t ∧ t.job n.toNat = none ∧
        t.notices.jobEnded = true ∧ t.response.get 0 = 8 ∧ t.response.get 1 = tag ∧
        t.response.get 2 = 1 ∧ t.readMark = false) ∧
    ∀ (j : Job) (record : Record), 1 ≤ n.toNat → n.toNat ≤ 255 → a.job n.toNat = some j →
      record = (match j.kind with
        | .sector => .sector
          { gap := a.gapPending, job := n.toNat, addr := ⟨j.unit, j.cyl, j.head, j.sector⟩
            origin := some j.origin, result := .cancelled, lastVerdict := j.lastVerdict
            attempts := j.attemptsMade, merged := j.merged
            report := j.report.getD ⟨0, none, 0, none, none⟩
            disposition := .notKept, heldRevs := j.heldRevs }
        | .track => .track
          { gap := a.gapPending, job := n.toNat, unit := j.unit, cyl := j.cyl, head := j.head
            origin := j.origin, revsDone := j.revsDone, reseeks := j.reseeks, result := .cancelled
            sectors := j.rows.map fun r =>
              (if r.superseded then Result.superseded else .unrecovered, false) }) →
      ∃ b : State, exec (.cancelJob tag n) s = .next ((settleJobs b).replied 8 tag 1 []) ∧
        b = { a with
          units := b.units, slots := b.slots, jobs := b.jobs
          grant := a.grant.map fun (g : Grant) =>
            if g.holder = .job n.toNat then { g with abandoned := true } else g
          records := if a.records.length < 128 then a.records ++ [record] else a.records
          gapPending := decide (128 ≤ a.records.length)
          notices := { a.notices with
            jobEnded := true
            recordsOverflow := a.notices.recordsOverflow || decide (128 ≤ a.records.length) } } ∧
        b.job n.toNat = none ∧
        (∀ k ∈ b.jobList, ∃ x ∈ a.jobList, k = { x with reservation := k.reservation } ∧
          x.reservation ≤ k.reservation) ∧
        (∀ x ∈ a.jobList, x.number ≠ n.toNat → ∃ k ∈ b.jobList,
          k = { x with reservation := k.reservation }) ∧
        (∀ i, b.slot i = (if (a.slot i).owner = some (.job n.toNat) then
          { Slot.free with
            words := (a.slot i).words
            state := if a.bankRetired (bankOf i) then .retired else .free }
          else a.slot i)) ∧
        ∀ v, b.unit v = { a.unit v with
          motion := (a.unit v).motion.map fun (m : Motion) =>
            if m.issuer = .job n.toNat then { m with givenUp := true } else m
          recovery := (a.unit v).recovery.filter fun (r : Recovery) => r.issuer ≠ .job n.toNat
          owner := (a.unit v).owner.filter fun o => o ≠ n.toNat }) ∧
  ∀ (s : State) (g : Grant) (n : Nat) (d : Delivery) (noise : List ReadoutNoise), s.bypassOpen = true →
    s.grant = some g → g.abandoned = true → g.holder = .job n →
    ((∃ head sector, g.op = .readSector head sector) → exec (.streamChecked d noise) s =
      .next (endCommand (settleJobs { s with grant := none, out := [], noise := noise }))) ∧
    ((∃ head, g.op = .readTrack head) →
      exec (.streamChecked d noise) s =
        .next (endCommand (settleJobs { s with out := [], noise := noise })) ∧
      exec (.revolutionEnd noise) s =
        .next (endCommand (settleJobs { s with grant := none, out := [], noise := noise })))

/-- R157, R179 and 11.4: TAKE RECORDS takes the oldest records, as many as its count allows and as fit whole
in 249 words, gives their words in order, and leaves the rest and the gap-pending mark. A SECTOR record has
the 12 words and a TRACK record the 8 and one for each sector that 11.4 lays out; of a head above 15, which
a redirected write outside the geometry can have, the address word is the model's choice (log 50). -/
def Obligations.RecordsTaken : Prop :=
  (∀ (s a : State) (tag count : Word), s.bypassOpen = true → a = s.taken [] →
    ∃ k : Nat, k ≤ a.records.length ∧ k ≤ count.toNat ∧
      ((a.records.take k).flatMap recordWords).length ≤ 249 ∧
      (k = count.toNat ∨ k = a.records.length ∨
        249 < ((a.records.take (k + 1)).flatMap recordWords).length) ∧
      exec (.takeRecords tag count) s = .next ({ a with records := a.records.drop k }.replied 9 tag 1
        ([BitVec.ofNat 12 k, BitVec.ofNat 12 (a.records.length - k)] ++
          (a.records.take k).flatMap recordWords))) ∧
  ∀ (origin : Origin → Nat) (result : Result → Nat),
    (origin = fun x => match x with
      | .readFailure => 1
      | .request => 2
      | .escalation => 3) →
    (result = fun x => match x with
      | .clean => 1
      | .byVote => 2
      | .byTrial => 3
      | .byFill => 4
      | .unrecovered => 5
      | .cancelled => 6
      | .superseded => 7
      | .escalated => 8
      | .faulted => 9
      | .noJob => 10
      | .cableCheck => 11
      | .completed => 12) →
    (∀ r : SectorRecord, recordWords (.sector r) =
      [BitVec.ofNat 12 ((if r.gap then 2048 else 0) + 512 + 12), BitVec.ofNat 12 r.job,
       BitVec.ofNat 12 (r.addr.unit.val * 512 + r.addr.head * 32 + r.addr.sector),
       BitVec.ofNat 12 r.addr.cyl,
       BitVec.ofNat 12 ((r.origin.map origin).getD 0 * 1024 + result r.result * 64 +
         (match r.lastVerdict with
           | none => 0
           | some .byVote => 1
           | some .byTrial => 2
           | some .byFill => 3
           | some .conflict => 4
           | some .ambiguous => 5
           | some .unverified => 6
           | some .unresolved => 7) * 8 +
         match r.disposition with
           | .notKept => 0
           | .stored => 2
           | .notStoredFull => 4),
       BitVec.ofNat 12 r.attempts, BitVec.ofNat 12 (r.merged * 256 + r.report.disputed),
       BitVec.ofNat 12 r.report.undecided,
       BitVec.ofNat 12 ((if r.report.first = none then 0 else 2048) +
         (if r.report.expected = none then 0 else 1024) + (if r.report.received = none then 0 else 512) +
         r.report.first.getD 0),
       r.report.expected.getD 0, r.report.received.getD 0, BitVec.ofNat 12 r.heldRevs]) ∧
    ∀ r : TrackRecord, (recordWords (.track r)).length = 8 + r.sectors.length ∧
      (recordWords (.track r)).take 8 =
        [BitVec.ofNat 12 ((if r.gap then 2048 else 0) + 1024 + (8 + r.sectors.length)),
         BitVec.ofNat 12 r.job, BitVec.ofNat 12 (r.unit.val * 512 + r.head * 32), BitVec.ofNat 12 r.cyl,
         BitVec.ofNat 12 (origin r.origin * 1024 + result r.result * 64), BitVec.ofNat 12 r.revsDone,
         BitVec.ofNat 12 r.reseeks, BitVec.ofNat 12 r.sectors.length] ∧
      ∀ (k : Nat) (outcome : Result) (stored : Bool), r.sectors[k]? = some (outcome, stored) →
        (recordWords (.track r))[8 + k]? =
          some (BitVec.ofNat 12 ((if stored then 2048 else 0) + result outcome * 64 + k))

/-- R180: STORE DIRECTORY gives the entry count and, for each entry from the start index up and at most 41,
its index, key, origin with the pinned, stale and damaged flags, hit count and generation; nothing but the
response changes. A start above 63 is BAD_FIELD. Of a key whose head is above 15, which a redirected write
outside the geometry can have, the address word is the model's choice (log 50). -/
def Obligations.DirectoryGiven : Prop :=
  ∀ (s a : State) (tag start : Word), s.bypassOpen = true → a = s.taken [] →
    (63 < start.toNat → exec (.storeDirectory tag start) s = .next (a.replied 10 tag 5 [])) ∧
    (start.toNat ≤ 63 → ∃ l : List Word,
      exec (.storeDirectory tag start) s = .next (a.replied 10 tag 1
        ([BitVec.ofNat 12 (min 41 (a.store.length - start.toNat)), BitVec.ofNat 12 a.store.length] ++ l)) ∧
      l.length = 6 * min 41 (a.store.length - start.toNat) ∧
      ∀ (k : Nat) (e : Entry), k < 41 → a.store[start.toNat + k]? = some e →
        (l.drop (6 * k)).take 6 =
          [BitVec.ofNat 12 (start.toNat + k),
           BitVec.ofNat 12 (e.key.unit.val * 512 + e.key.head * 32 + e.key.sector),
           BitVec.ofNat 12 e.key.cyl,
           BitVec.ofNat 12 ((match e.origin with
               | .cleanMajority => 1
               | .vote => 2
               | .trial => 3
               | .fill => 4
               | .redirectedWrite => 5) * 512 + (if e.pinned then 4 else 0) +
             (if e.generation = (a.unit e.key.unit).generation then 0 else 2) +
             (if e.damaged then 1 else 0)),
           BitVec.ofNat 12 e.hits, e.generation])

/-- R148, R149, R181: PIN and UNPIN set and clear the flag of the entry with the key, DROP removes it and
clears the full condition; DROP of a redirected entry is ENTRY_LOCKED while its unit's policy is REDIRECT; a
key the store does not hold is NO_SUCH_ENTRY, an address no drive has is BAD_FIELD. -/
def Obligations.EntryPinnedOrDropped : Prop :=
  ∀ (s a : State) (tag unit cyl head sector code : Word) (i : Instr) (good : Prop),
    s.bypassOpen = true → a = s.taken [] →
    good = (unit.toNat ≤ 3 ∧ cyl.toNat ≤ 1022 ∧ head.toNat ≤ 15 ∧ sector.toNat ≤ 23) →
    (i = .pinEntry tag unit cyl head sector ∧ code = 11 ∨
      i = .unpinEntry tag unit cyl head sector ∧ code = 12 ∨
      i = .dropEntry tag unit cyl head sector ∧ code = 13) →
    (¬good → exec i s = .next (a.replied code tag 5 [])) ∧
    ∀ (u : UnitNo) (k : Addr), good → unit.toNat = u.val →
      k = ⟨u, cyl.toNat, head.toNat, sector.toNat⟩ →
      ((∀ e ∈ a.store, e.key ≠ k) → exec i s = .next (a.replied code tag 13 [])) ∧
      ∀ e, (a.store.find? fun (x : Entry) => x.key = k) = some e →
        (code ≠ 13 → exec i s = .next ({ a with store := a.store.map fun (x : Entry) =>
          if x.key = k then { x with pinned := decide (code = 11) } else x }.replied code tag 1 [])) ∧
        (code = 13 → e.origin = .redirectedWrite → (a.unit u).policy = .redirect →
          exec i s = .next (a.replied 13 tag 14 [])) ∧
        (code = 13 → ¬(e.origin = .redirectedWrite ∧ (a.unit u).policy = .redirect) →
          exec i s = .next ({ a with
            store := a.store.filter fun (x : Entry) => x.key ≠ k, storeFull := false }.replied 13 tag 1 []))

/-- R153, R182: ADOPT ENTRIES brings every stale entry of the unit to its generation, counts them, and changes
nothing else; a unit above 3 is BAD_FIELD. -/
def Obligations.EntriesAdopted : Prop :=
  ∀ (s a : State) (tag unit : Word), s.bypassOpen = true → a = s.taken [] →
    (3 < unit.toNat → exec (.adoptEntries tag unit) s = .next (a.replied 14 tag 5 [])) ∧
    ∀ u : UnitNo, unit.toNat = u.val →
      exec (.adoptEntries tag unit) s = .next ({ a with store := a.store.map fun (e : Entry) =>
          if e.key.unit = u then { e with generation := (a.unit u).generation } else e }.replied 14 tag 1
        [BitVec.ofNat 12 (a.store.countP fun (e : Entry) =>
          e.key.unit = u && e.generation ≠ (a.unit u).generation)])

/-- R89, R156 to R158, R163, R183: CLEAR of RECORDS, STORE and COUNTERS removes just those. CLEAR of JOBS
and ALL ends every job, leaves no off-track count, and sets JOB_ENDED where there was a job; the jobs are
recorded CANCELLED in ascending order of job number while the queue has room. ALL then does the other three
too, those records among what it removes. The result words count the jobs, records and entries, 0 for the
parts not chosen. Any other scope is BAD_FIELD. Plans, geometry, policies, limits and the job-number counter
stay. -/
def Obligations.Cleared : Prop :=
  ∀ (s a : State) (tag scope : Word), s.bypassOpen = true → a = s.taken [] →
    (scope.toNat = 2 → exec (.clear tag scope) s = .next ({ a with
      records := [], gapPending := false }.replied 15 tag 1 [0, BitVec.ofNat 12 a.records.length, 0])) ∧
    (∀ stays : Entry → Bool,
      (stays = fun e => e.pinned || decide (e.origin = .redirectedWrite)) → scope.toNat = 3 →
      exec (.clear tag scope) s = .next ({ a with
        store := a.store.filter stays, storeFull := a.storeFull && a.store.all stays }.replied 15 tag 1
          [0, 0, BitVec.ofNat 12 (a.store.countP fun e => !stays e)])) ∧
    (scope.toNat = 4 → exec (.clear tag scope) s = .next ({ a with
      units := a.units.map fun (e : UnitEntry) => { e with counters := Counters.zero }
      }.replied 15 tag 1 [0, 0, 0])) ∧
    ((scope.toNat = 1 ∨ scope.toNat = 5) → ∃ t : State, exec (.clear tag scope) s = .next t ∧
      t.jobList = [] ∧ (∀ u, (t.unit u).offTrack = 0 ∧ (t.unit u).countedTrack = none) ∧
      t.notices.jobEnded = (a.notices.jobEnded || decide (a.jobList ≠ [])) ∧
      (scope.toNat = 1 → a.NumbersSound → a.records.length + a.jobList.length ≤ 128 →
        ∃ l : List Record, t.records = a.records ++ l ∧ l.length = a.jobList.length ∧
          (l.map fun r => match r with
            | .sector r => r.job
            | .track r => r.job).Pairwise (· < ·) ∧
          ∀ j ∈ a.jobList,
            (j.kind = .sector → ∃ r : SectorRecord, .sector r ∈ l ∧ r.job = j.number ∧
              r.addr = ⟨j.unit, j.cyl, j.head, j.sector⟩ ∧ r.origin = some j.origin ∧
              r.result = .cancelled ∧ r.disposition = .notKept) ∧
            (j.kind = .track → ∃ r : TrackRecord, .track r ∈ l ∧ r.job = j.number ∧ r.unit = j.unit ∧
              r.cyl = j.cyl ∧ r.head = j.head ∧ r.origin = j.origin ∧ r.result = .cancelled ∧
              r.sectors.length = j.rows.length)) ∧
      (scope.toNat = 1 → t.response.get 6 = 0 ∧ t.response.get 7 = 0) ∧
      (scope.toNat = 5 → t.records = [] ∧ t.gapPending = false ∧
        (∀ u, (t.unit u).counters = Counters.zero) ∧
        (∀ e ∈ t.store, e.pinned = true ∨ e.origin = .redirectedWrite) ∧
        (a.NumbersSound → a.records.length ≤ 128 → t.response.get 6 =
          BitVec.ofNat 12 (min 128 (a.records.length + a.jobList.length))) ∧
        t.response.get 7 = BitVec.ofNat 12 (a.store.countP fun e =>
          !(e.pinned || decide (e.origin = .redirectedWrite)))) ∧
      (∀ e ∈ a.store, e.pinned = true ∨ e.origin = .redirectedWrite → e ∈ t.store) ∧
      t.plans = a.plans ∧ t.q = a.q ∧ t.t = a.t ∧ t.holdLimit = a.holdLimit ∧ t.nextJob = a.nextJob ∧
      t.response.get 0 = 15 ∧ t.response.get 1 = tag ∧ t.response.get 2 = 1 ∧
      t.response.get 5 = BitVec.ofNat 12 a.jobList.length ∧
      ∀ u, (t.unit u).geometry = (a.unit u).geometry ∧ (t.unit u).policy = (a.unit u).policy) ∧
    ((scope.toNat = 0 ∨ 5 < scope.toNat) →
      exec (.clear tag scope) s = .next (a.replied 15 tag 5 []))

/-- R168 tests 1 to 3: a maintenance write with a wrong checkword, a wrong marker or an unknown code is
refused in that order, and only the response and the read mark change. -/
def Obligations.RequestRefused : Prop :=
  ∀ (s a : State) (data : List Word) (check : Word), s.bypassOpen = true → a = s.taken [] →
    (wordSum data ≠ check → exec (.requestRefused data check) s =
      .next (a.replied (data.getD 0 0) (data.getD 2 0) 3 [])) ∧
    (wordSum data = check → (data.getD 1 0).toNat + (data.getD 0 0).toNat ≠ 4095 →
      exec (.requestRefused data check) s =
        .next (a.replied (data.getD 0 0) (data.getD 2 0) 2 [])) ∧
    (wordSum data = check → (data.getD 1 0).toNat + (data.getD 0 0).toNat = 4095 →
      ((data.getD 0 0).toNat = 0 ∨ 15 < (data.getD 0 0).toNat) →
      exec (.requestRefused data check) s =
        .next (a.replied (data.getD 0 0) (data.getD 2 0) 4 []))

/-- R26, R168, 11.4: every request command is the WRITE SECTOR of its words, with their sum, to sector 0 of
the maintenance cylinder under any head (the request commands are the model's reading of the table, log
16). -/
def Obligations.MaintenanceWriteIsRequest : Prop :=
  ∀ (s a : State) (i : Instr) (head : Nat) (code tag : Word) (args : List Word), s.bypassOpen = true →
    a = s.taken [] → (a.unit a.controllerUnit).controllerCyl = some 1023 → i.wellFormed = true →
    requestOf i = some (code, tag, args) →
    exec (.writeSector head 0 (requestData code tag args)
      (some (wordSum (requestData code tag args)))) s = exec i s

/-! ### Sums, checks, merges and offers -/

/-- R3: no sum is 7777, and replacing words of 7777 by 0000 leaves a sum as it was. -/
def Obligations.SumOfWords : Prop :=
  ∀ l : List Word, wordSum l ≠ 0o7777 ∧
    wordSum (l.map fun w => if w = 0o7777 then 0 else w) = wordSum l ∧
    (wordSum l).toNat = (l.map BitVec.toNat).sum % 4095

/-- R8: the check outcome of a READ SECTOR's stream, and its marks, by the table's order. An erased position
256 is a received checkword of 7777. With it, R5 and R12: the address of a stream is the read's own; the
findings on a stream whose clock held have the received checkword and all 16 segment sums, which together
sum to the data sum, and those on a DROPOUT no received checkword, and the segment sums of the segments
wholly before the dropout start. And R11: a stream of a READ TRACK is expected at the sector of this track
that a good header names, otherwise, its header sum failing, at the sector of its mark; a good header of
another address is WRONG_HEADER. -/
def Obligations.CheckOutcomeOrder : Prop :=
  ∀ (cyl head sector : Nat) (d : Delivery),
    (∀ f : Finding, f = judge cyl head sector d → f.sector = sector ∧
      (deliveredWords d = none → f.outcome = .noSync) ∧
      ∀ words : List Word, deliveredWords d = some words →
        (∀ w, lossWord d = some w → w < 3 → f.outcome = .noSync) ∧
        ((∀ w, lossWord d = some w → 3 ≤ w) →
          (headerGood words = true → headerNames words ≠ (cyl, head, sector) → f.outcome = .wrongHeader) ∧
          (¬(headerGood words = true ∧ headerNames words ≠ (cyl, head, sector)) →
            (∀ w, lossWord d = some w →
              f.outcome = .dropout ∧ f.dropout = some (w - 3) ∧ f.headerBad = !headerGood words ∧
              f.received = none ∧ f.sums.length = 16 ∧ ∀ n < 16, f.sums[n]? = some
                (if w < 16 * n + 19 then none else some (wordSum ((words.drop (16 * n + 3)).take 16)))) ∧
            (lossWord d = none →
              f.received = some (checkwordOf words) ∧ f.dropout = none ∧
              (checkwordOf words = 0o7777 → f.outcome = .dataCheck) ∧
              (wordSum (dataOf words) ≠ checkwordOf words → f.outcome = .dataCheck) ∧
              (wordSum (dataOf words) = checkwordOf words → headerGood words = false →
                f.outcome = .headerCheck) ∧
              (wordSum (dataOf words) = checkwordOf words → headerGood words = true →
                f.outcome = .clean) ∧
              (f.headerBad = true ↔ f.outcome = .dataCheck ∧ headerGood words = false) ∧
              f.sums = ((List.range 16).map fun n =>
                some (wordSum ((words.drop (16 * n + 3)).take 16))) ∧
              wordSum (f.sums.filterMap id) = wordSum (dataOf words))))) ∧
    ∀ (mark sectors : Nat) (f : Finding), mark < sectors → f = judgeTrack cyl head mark sectors d →
      (deliveredWords d = none → f.outcome = .noSync) ∧
      ∀ words : List Word, deliveredWords d = some words →
        (∀ w, lossWord d = some w → w < 3 → f.outcome = .noSync) ∧
        ((∀ w, lossWord d = some w → 3 ≤ w) →
          (headerGood words = true → headerNames words = (cyl, head, sector) → sector < sectors →
            f = judge cyl head sector d ∧ f.outcome ∈ [CheckOutcome.clean, .dataCheck, .dropout]) ∧
          (headerGood words = true → (∀ n, n < sectors → headerNames words ≠ (cyl, head, n)) →
            f.outcome = .wrongHeader ∧ f.named = headerNames words) ∧
          (headerGood words = false →
            f = judge cyl head mark d ∧ f.outcome ∈ [CheckOutcome.headerCheck, .dataCheck, .dropout]))

/-- The Merge Unit, R108 to R121. What a capture shows: at each position the word of its slot where that
passes parity, erased from a dropout's start on, and at position 256 where the checkword is 7777 as received
or as read (R108). The candidates of a position, each with the credits of the captures that show it, ranked
by tally and then by the earliest capture (R109), and the position's condition under Q (R110). The verdict
in its order: UNVERIFIED without a decided checkword, the vote or CONFLICT with no position open (R112);
trial where at most T positions are open, none void, in 3 captures or more, its matches one, several or none
(R113, R115); fill of one open position (R116, R117); otherwise UNRESOLVED (R118). The data of a recovering
verdict sums to the decided checkword where that is not 7777 (R119); the data of any other is the merged
data. The dispute report counts the disputed segments and names the first (R120), and gives the open
positions and the two checkwords (R121). -/
def Obligations.RecoveredDataSumsToCheckword : Prop :=
  (∀ (q t : Nat) (captures : List MergeCapture) (v : Verdict) (data : List Word),
    mergeVerdictOf q t captures = (v, data) → recovering v = true →
    (∀ x ∈ captures, x.values.getD 256 none ≠ some 0o7777) →
    ∃ c, conditionOf q (ranked captures 256) = .decided c ∧ wordSum data = c ∧ data.length = 256) ∧
  (∀ (s : State) (i : SlotId) (x : Slot) (cell : Nat → Option Word) (c : MergeCapture), x = s.slot i →
    (cell = fun p => readStored (s.noise.headD []) (p + 3) (x.words.getD (p + 3) (storeWord 0))) →
    c = mergeCapture x (readPositions i s).1 →
    c.credit = x.credit.getD 0 ∧ c.sums = x.sums ∧
      ∀ p, p ≤ 256 → c.values.getD p none =
        if (x.dropout.any fun d => decide (d ≤ p)) = true ∨
            p = 256 ∧ (x.received = some 0o7777 ∨ cell 256 = some 0o7777) then none
        else cell p) ∧
  (∀ (captures : List MergeCapture) (p : Nat) (shows : MergeCapture → Word → Bool) (first : Word → Nat),
    (shows = fun x w => decide (x.values.getD p none = some w)) →
    (first = fun w => captures.findIdx fun x => shows x w) →
    ((ranked captures p).map Prod.fst).Nodup ∧
    (∀ w, w ∈ (ranked captures p).map Prod.fst ↔ ∃ x ∈ captures, shows x w = true) ∧
    (∀ y ∈ ranked captures p,
      y.2 = ((captures.filter fun x => shows x y.1).map MergeCapture.credit).sum) ∧
    (ranked captures p).Pairwise fun y z => z.2 < y.2 ∨ z.2 = y.2 ∧ first y.1 < first z.1) ∧
  (∀ q : Nat, conditionOf q [] = .void ∧ (∀ x, conditionOf q [x] = .decided x.1) ∧
    ∀ x y l, conditionOf q (x :: y :: l) =
      if q ≤ x.2 ∧ y.2 < x.2 then .decided x.1 else .undecided ((x :: y :: l).map Prod.fst)) ∧
  (∀ (q t : Nat) (captures : List MergeCapture) (cond : Nat → Condition) (merged : Nat → Word)
    (fixed : Word) (opens : List Nat) (data : List Word) (place : List Word → List Word),
    (cond = fun p => conditionOf q (ranked captures p)) →
    (merged = fun p => match cond p with
      | .decided w => w
      | .undecided l => l.headD 0
      | .void => 0) →
    (opens = (List.range 256).filter fun p => match cond p with
      | .decided _ => false
      | _ => true) →
    (fixed = wordSum (((List.range 256).filter fun p => !opens.contains p).map merged)) →
    data = (List.range 256).map merged →
    (place = fun vals => (List.range 256).map fun p =>
      (((opens.zip vals).find? fun x => x.1 = p).map Prod.snd).getD (merged p)) →
    ((∀ c, cond 256 ≠ .decided c) → mergeVerdictOf q t captures = (.unverified, data)) ∧
    ∀ (c : Word) (trial : Prop) (matching : List Word → Prop), cond 256 = .decided c →
      (trial = (opens.length ≤ t ∧ (∀ p ∈ opens, cond p ≠ .void) ∧ 3 ≤ captures.length)) →
      (matching = fun vals => vals.length = opens.length ∧ wordSum (fixed :: vals) = c ∧
        ∀ (k p : Nat) (l : List Word), opens[k]? = some p → cond p = .undecided l →
          vals[k]? ≠ none ∧ (vals[k]? = l[0]? ∨ vals[k]? = l[1]?)) →
      (opens = [] →
        mergeVerdictOf q t captures = (if wordSum data = c then .byVote else .conflict, data)) ∧
      (opens ≠ [] → trial → ∀ vals, matching vals →
        ((∀ w, matching w → w = vals) → mergeVerdictOf q t captures = (.byTrial, place vals)) ∧
        ∀ w, matching w → w ≠ vals → mergeVerdictOf q t captures = (.ambiguous, data)) ∧
      (2 ≤ opens.length → (trial → ∀ vals, ¬matching vals) →
        mergeVerdictOf q t captures = (.unresolved, data)) ∧
      ∀ (p : Nat) (f : Word), opens = [p] → (trial → ∀ vals, ¬matching vals) →
        (f = if fixed.toNat ≤ c.toNat then BitVec.ofNat 12 (c.toNat - fixed.toNat)
          else BitVec.ofNat 12 (c.toNat + 4095 - fixed.toNat)) →
        (cond p = .void → f = 0 → mergeVerdictOf q t captures = (.ambiguous, data)) ∧
        (cond p = .void → f ≠ 0 → mergeVerdictOf q t captures = (.byFill, place [f])) ∧
        ∀ (l : List Word) (fits : Word → Prop), cond p = .undecided l →
          (fits = fun w => w ∈ l ∧ (f ≠ 0 ∧ w = f ∨ f = 0 ∧ (w = 0 ∨ w = 0o7777))) →
          ((∀ w, ¬fits w) → mergeVerdictOf q t captures = (.conflict, data)) ∧
          ∀ w, fits w →
            ((∀ x, fits x → x = w) → mergeVerdictOf q t captures = (.byFill, place [w])) ∧
            ∀ x, fits x → x ≠ w → mergeVerdictOf q t captures = (.ambiguous, data)) ∧
  ∀ (q : Nat) (captures : List MergeCapture) (v : Verdict) (data : List Word) (cond : Nat → Condition)
    (disputed : Nat → Bool),
    (cond = fun p => conditionOf q (ranked captures p)) →
    (∀ k, disputed k = true ↔
      (∃ x ∈ captures, x.sums.getD k none = none) ∨
      (∃ x ∈ captures, ∃ y ∈ captures, x.sums.getD k none ≠ y.sums.getD k none) ∨
      ∃ p, 16 * k ≤ p ∧ p < 16 * k + 16 ∧
        ((∃ x ∈ captures, x.values.getD p none = none) ∨ 1 < (ranked captures p).length)) →
    disputeReport q captures v data =
      { disputed := (List.range 16).countP disputed
        first := (List.range 16).find? disputed
        undecided := (List.range 256).countP fun p => match cond p with
          | .decided _ => false
          | _ => true
        expected := if v = .byVote ∨ v = .byTrial ∨ v = .byFill ∨
            ((List.range 256).all fun p => decide (cond p ≠ .void)) = true then
          some (wordSum data) else none
        received := match cond 256 with
          | .decided c => some c
          | _ => none }

/-! ### What every step keeps -/

/-- R139, R142, R154, R155: every step keeps the store and the record queue as the manual bounds them. -/
def Obligations.StepKeepsStoreAndRecords : Prop :=
  ∀ s t : State, s.StoreSound → s.RecordsSound → step s = .next t → t.StoreSound ∧ t.RecordsSound

/-- R20, R59, R91, R93, R106, R163, R172: every step keeps the settings, plans, counters, holds, geometry and
parity counts in their ranges. -/
def Obligations.StepKeepsRanges : Prop :=
  ∀ s t : State, s.InRange → step s = .next t → t.InRange

/-- R72, R73, R80: every step keeps the job numbers between 1 and 255 and distinct; one sector job to an
address, one track job to a track, and no sector job on a track that has a track job; and, with the relay's
holds, its operation, the grant, never one for a read that waits for a job, and its seeks as they hang
together, at most one foreground job, and that only while a read waits for a job. -/
def Obligations.StepKeepsJobNumbers : Prop :=
  ∀ s t : State, step s = .next t →
    (s.NumbersSound → t.NumbersSound) ∧ (s.OwnersSound → t.OwnersSound) ∧
      (s.RelaySound → t.RelaySound ∧
        ∀ j ∈ t.jobList, ∀ k ∈ t.jobList, j.foreground = true → k.foreground = true → j.number = k.number)

/-- R58, R60, R67, R69, R70, R77, R79, R102: every step keeps RETIRED slots in retired banks and FREE slots
out of them; and a retired bank comes back only by power-on reset (R59), or with the power's loss. While
slots and jobs agree, a job has merges outstanding only in MERGING, no job holds more than its reservation,
every claim is backed by a FREE slot, and nothing is available while a job is shortened. Claims are trimmed
from the last of the grant order up, and reservations restored from the first down. -/
def Obligations.StepKeepsBanks : Prop :=
  (∀ s t : State, s.BanksSound → step s = .next t → t.BanksSound ∧
    (∀ b, s.bankRetired b = true → t.bankRetired b = true ∨
      ∃ c ∈ s.pending.head?, ofPower c = true) ∧
    (s.NumbersSound → s.MergesSound → s.SlotsSound → s.ReservationsSound →
      t.MergesSound ∧ t.SlotsSound ∧ t.ReservationsSound)) ∧
  ∀ (s t : State) (before behind : List Job) (j x y k : Job), s.NumbersSound →
    s.grantOrder = before ++ j :: behind → x ∈ t.jobList → x.number = j.number →
    y ∈ t.jobList → y.number = k.number →
    (t = trimClaims s → t.totalReserved ≤ s.freeCount ∧
      (x.reservation < j.reservation → k ∈ behind → t.claim y = 0)) ∧
    (t = restoreReservations s → (∀ z ∈ s.jobList, s.holding z.number ≤ z.reservation) →
      (t.available = 0 ∨ t.anyShortened = false) ∧
      (j.reservation < x.reservation → k ∈ before → y.granted ≤ y.reservation))

/-- R39, R149: every step keeps waiting writes on PASS units and redirected entries off them; and while the
bypass is open, no WRITE SECTOR or FORMAT TRACK goes to a drive whose unit's policy is not PASS. -/
def Obligations.StepKeepsGuardedPacks : Prop :=
  ∀ s t : State, s.WritesSound → s.RedirectsSound → step s = .next t →
    t.WritesSound ∧ t.RedirectsSound ∧
      (s.bypassOpen = true → s.pending ≠ [] → ∀ (u : UnitNo) (head sector : Nat),
        (.driveOp u (.writeSector head sector) ∈ t.out ∨ .driveOp u (.formatTrack head) ∈ t.out) →
        (s.unit u).policy = .pass)

/-- R142, R149: a redirected entry leaves the store only by power-on reset or the loss of power, by a newer
redirected write of its key, or by DROP ENTRY; and its data words and checkword stay as they were written, but
for such a write, which puts its own in their place. The front command is one that can be sent (log 40). -/
def Obligations.RedirectedEntriesSurvive : Prop :=
  ∀ s t : State, s.StoreSound → s.WritesSound → s.RedirectsSound → step s = .next t →
    (∀ c ∈ s.pending.head?, c.wellFormed = true ∧ ofPower c = false ∧ dropRequest s c = false) →
    ∀ e ∈ s.store, e.origin = .redirectedWrite →
      ∃ x ∈ t.store, x.key = e.key ∧ x.origin = .redirectedWrite ∧
        (x.data = e.data ∧ x.check = e.check ∨
          ∃ (data : List Word) (check : Word),
            s.pending.head? = some (.writeSector e.key.head e.key.sector data (some check)) ∧
            s.bypassOpen = true ∧ s.controllerUnit = e.key.unit ∧
            (s.unit e.key.unit).controllerCyl = some e.key.cyl ∧
            (s.unit e.key.unit).policy = .redirect ∧ wordSum data = check ∧
            x.data = data.map storeWord ∧ x.check = storeWord check)

/-- R55, R140: a unit's pack generation changes only by a fall of READY on that unit, or with the power. -/
def Obligations.GenerationAdvancesOnlyOnFall : Prop :=
  ∀ (s t : State) (u : UnitNo), step s = .next t → (t.unit u).generation ≠ (s.unit u).generation →
    ∃ c ∈ s.pending.head?, ofPower c = true ∨ ∃ arrived, c = .readyFall u arrived

/-- The state after reset meets every condition that the steps keep. -/
def Obligations.ResetMeetsTheConditions : Prop :=
  State.reset.StoreSound ∧ State.reset.RecordsSound ∧ State.reset.InRange ∧ State.reset.NumbersSound ∧
    State.reset.BanksSound ∧ State.reset.WritesSound ∧ State.reset.RedirectsSound ∧
    State.reset.OwnersSound ∧ State.reset.RelaySound ∧ State.reset.MergesSound ∧
    State.reset.SlotsSound ∧ State.reset.ReservationsSound
end

