-- ==== Sys2Proof/Laws/Arbiter.lean ====
section
/-! SUPPORT. The arbiter's conditions as the statements write them out, and as the machine finds them. -/

namespace Sys2Proof.Machine

/-- The step of a job's read, as the machine finds it (R94, R126). -/
theorem State.planStep_eq_stepOf (s : State) (j : Job) : s.planStep j = s.stepOf j := by
  cases h : j.kind <;> simp [State.planStep, State.stepOf, h]

/-- The action due, as the machine finds it (R96, R99, R126). -/
theorem State.actionDue_eq_actionOf (s : State) (j : Job) : j.actionDue (s.planStep j) = s.actionOf j := by
  unfold Job.actionDue State.actionOf
  rw [s.planStep_eq_stepOf j]
  cases j.actionDone <;> cases j.kind <;> simp only [Bool.false_eq_true, if_false, if_true]
  by_cases h : j.attempt = 1 ∨ j.repositionNeeded = true <;> by_cases g : j.headerMark = .due <;>
    cases (s.stepOf j).reposition <;> simp [h, g]

/-- The relay's claim, as the machine finds it (R28). -/
theorem State.unitClaimed_eq_relayClaim (s : State) (u : UnitNo) : s.unitClaimed u = s.relayClaim u := by
  unfold State.unitClaimed State.relayClaim
  cases s.current with
  | none => rfl
  | some op =>
    rcases hk : op.kind with k | _ | _ | _
    · cases k <;> simp [hk]
    all_goals simp [hk]

/-- The job's own seek, as the machine finds it (R77). -/
theorem State.seeksOwn_eq_ownMotion (s : State) (j : Job) : s.seeksOwn j = s.ownMotion j := by
  unfold State.seeksOwn State.ownMotion
  cases (s.unit j.unit).motion <;> rfl

/-- An item that may go is one that the machine finds eligible (R45). -/
theorem State.itemMayGo_eq_itemEligible (s : State) (i : Item) : s.itemMayGo i = s.itemEligible i := by
  unfold State.itemMayGo State.itemEligible
  cases i with
  | margin u => simp [Item.unit]
  | seek u c b => cases h : (s.unit u).recovery <;> simp [Item.unit, h]
  | operation u => simp [Item.unit, s.unitClaimed_eq_relayClaim]

/-- The job has a command due where the machine finds a next one (R51, R95). -/
theorem State.commandDue_eq_nextCommand (s : State) (j : Job) : s.commandDue j = (s.nextCommand j).isSome := by
  have plain : (s.plainCommand j).isSome = decide (j.actionDue (s.planStep j) ≠ .none ∨
      (s.unit j.unit).driveCyl ≠ some j.cyl ∨ (s.unit j.unit).strobe ≠ some (s.planStep j).strobe ∨
      (s.unit j.unit).offset ≠ some (s.planStep j).offset) := by
    rw [s.actionDue_eq_actionOf j, s.planStep_eq_stepOf j]
    unfold State.plainCommand
    by_cases ha : s.actionOf j = .none <;> by_cases hd : (s.unit j.unit).driveCyl = some j.cyl <;>
      by_cases hs : (s.unit j.unit).strobe = some (s.stepOf j).strobe <;>
      by_cases ho : (s.unit j.unit).offset = some (s.stepOf j).offset <;> simp [ha, hd, hs, ho]
  unfold State.commandDue State.nextCommand
  cases h : (s.unit j.unit).recovery with
  | none => simpa [h] using plain.symm
  | some r =>
    by_cases hi : r.issuer = .job j.number
    · cases hp : r.phase <;> simp [hi, hp, Option.filter, retryCommand]
    · simpa [hi, Option.filter] using plain.symm

/-- A job shows no waiting reason while it has no request, while its own seek is under way, and while every
condition of R46 holds (R77, log 49). -/
theorem State.waiting_none_iff (s : State) (j : Job) : (s.waiting j = .none) ↔
    j.asks = false ∨ s.seeksOwn j = true ∨ ¬(j.state = .awaiting ∧ j.slotsMissing = true) ∧
      (s.unit j.unit).ready = true ∧ (s.unit j.unit).faultLine = false ∧ (s.unit j.unit).motion = none ∧
      s.unitClaimed j.unit = false ∧ ((s.unit j.unit).owner = none ∨
        (s.unit j.unit).owner = some j.number ∨ j.foreground = true) ∧ s.grant = none := by
  have asks : requesting j = j.asks := by unfold requesting Job.asks; cases j.state <;> rfl
  have missing : (decide (j.state = .awaiting) && decide (j.filling.length < slotsNeeded j)) =
      decide (j.state = .awaiting ∧ j.slotsMissing = true) := by
    unfold Job.slotsMissing slotsNeeded
    cases j.kind <;> simp
  unfold State.waiting
  simp only [asks, ← s.seeksOwn_eq_ownMotion j, missing, ← s.unitClaimed_eq_relayClaim]
  cases j.asks <;> cases s.seeksOwn j <;> simp only [Bool.not_true, Bool.not_false, Bool.or_false,
    Bool.or_true, if_true, if_false, true_or, or_true, false_or, Bool.false_eq_true, reduceCtorEq]
  by_cases hm : j.state = .awaiting ∧ j.slotsMissing = true
  · simp [hm]
  cases hr : (s.unit j.unit).ready <;> cases hf : (s.unit j.unit).faultLine <;> simp [hm]
  cases hmo : (s.unit j.unit).motion <;> simp
  cases hc : s.unitClaimed j.unit <;> simp
  cases ho : (s.unit j.unit).owner with
  | none => cases s.grant <;> simp
  | some n => by_cases hn : n = j.number <;> cases j.foreground <;> cases s.grant <;> simp [hn]

/-- A job's request may go in the terms of R46 where the machine finds it eligible, the cable being free. -/
theorem State.jobMayGo_eq_eligible (s : State) (j : Job) (hg : s.grant = none) :
    s.jobMayGo j = s.eligible j := by
  have asks : requesting j = j.asks := by unfold requesting Job.asks; cases j.state <;> rfl
  have h := s.waiting_none_iff j
  unfold State.jobMayGo State.eligible
  rw [Bool.eq_iff_iff]
  simp only [asks, ← s.seeksOwn_eq_ownMotion j, Bool.and_eq_true, decide_eq_true_eq, h, hg, Bool.not_eq_true',
    Option.isNone_iff_eq_none, ← s.commandDue_eq_nextCommand]
  cases ha : j.asks <;> cases ho : s.seeksOwn j
  · simp
  · simp
  · cases hs : j.state <;> cases hm : j.slotsMissing <;> simp [and_assoc]
  · simp

end Sys2Proof.Machine
end

