-- ==== Sys2Proof/Laws/State.lean ====
section
/-! SUPPORT. What each plain update of the state leaves in each field. -/

namespace Sys2Proof.Machine

variable (s : State)

/-! ### modUnit -/

@[simp] theorem modUnit_powered (u : UnitNo) (f : UnitEntry → UnitEntry) :
    (modUnit u f s).powered = s.powered := rfl
@[simp] theorem modUnit_bypassOpen (u : UnitNo) (f : UnitEntry → UnitEntry) :
    (modUnit u f s).bypassOpen = s.bypassOpen := rfl
@[simp] theorem modUnit_joinedUnit (u : UnitNo) (f : UnitEntry → UnitEntry) :
    (modUnit u f s).joinedUnit = s.joinedUnit := rfl
@[simp] theorem modUnit_joinedOp (u : UnitNo) (f : UnitEntry → UnitEntry) :
    (modUnit u f s).joinedOp = s.joinedOp := rfl
@[simp] theorem modUnit_units (u : UnitNo) (f : UnitEntry → UnitEntry) :
    (modUnit u f s).units = s.units.set u (f (s.unit u)) := rfl
@[simp] theorem modUnit_controllerUnit (u : UnitNo) (f : UnitEntry → UnitEntry) :
    (modUnit u f s).controllerUnit = s.controllerUnit := rfl
@[simp] theorem modUnit_holdLimit (u : UnitNo) (f : UnitEntry → UnitEntry) :
    (modUnit u f s).holdLimit = s.holdLimit := rfl
@[simp] theorem modUnit_current (u : UnitNo) (f : UnitEntry → UnitEntry) :
    (modUnit u f s).current = s.current := rfl
@[simp] theorem modUnit_items (u : UnitNo) (f : UnitEntry → UnitEntry) :
    (modUnit u f s).items = s.items := rfl
@[simp] theorem modUnit_grant (u : UnitNo) (f : UnitEntry → UnitEntry) :
    (modUnit u f s).grant = s.grant := rfl
@[simp] theorem modUnit_selected (u : UnitNo) (f : UnitEntry → UnitEntry) :
    (modUnit u f s).selected = s.selected := rfl
@[simp] theorem modUnit_slots (u : UnitNo) (f : UnitEntry → UnitEntry) :
    (modUnit u f s).slots = s.slots := rfl
@[simp] theorem modUnit_banks (u : UnitNo) (f : UnitEntry → UnitEntry) :
    (modUnit u f s).banks = s.banks := rfl
@[simp] theorem modUnit_jobs (u : UnitNo) (f : UnitEntry → UnitEntry) : (modUnit u f s).jobs = s.jobs := rfl
@[simp] theorem modUnit_nextJob (u : UnitNo) (f : UnitEntry → UnitEntry) :
    (modUnit u f s).nextJob = s.nextJob := rfl
@[simp] theorem modUnit_plans (u : UnitNo) (f : UnitEntry → UnitEntry) :
    (modUnit u f s).plans = s.plans := rfl
@[simp] theorem modUnit_q (u : UnitNo) (f : UnitEntry → UnitEntry) : (modUnit u f s).q = s.q := rfl
@[simp] theorem modUnit_t (u : UnitNo) (f : UnitEntry → UnitEntry) : (modUnit u f s).t = s.t := rfl
@[simp] theorem modUnit_store (u : UnitNo) (f : UnitEntry → UnitEntry) :
    (modUnit u f s).store = s.store := rfl
@[simp] theorem modUnit_storeFull (u : UnitNo) (f : UnitEntry → UnitEntry) :
    (modUnit u f s).storeFull = s.storeFull := rfl
@[simp] theorem modUnit_records (u : UnitNo) (f : UnitEntry → UnitEntry) :
    (modUnit u f s).records = s.records := rfl
@[simp] theorem modUnit_gapPending (u : UnitNo) (f : UnitEntry → UnitEntry) :
    (modUnit u f s).gapPending = s.gapPending := rfl
@[simp] theorem modUnit_response (u : UnitNo) (f : UnitEntry → UnitEntry) :
    (modUnit u f s).response = s.response := rfl
@[simp] theorem modUnit_readMark (u : UnitNo) (f : UnitEntry → UnitEntry) :
    (modUnit u f s).readMark = s.readMark := rfl
@[simp] theorem modUnit_notices (u : UnitNo) (f : UnitEntry → UnitEntry) :
    (modUnit u f s).notices = s.notices := rfl
@[simp] theorem modUnit_out (u : UnitNo) (f : UnitEntry → UnitEntry) : (modUnit u f s).out = s.out := rfl
@[simp] theorem modUnit_noise (u : UnitNo) (f : UnitEntry → UnitEntry) :
    (modUnit u f s).noise = s.noise := rfl
@[simp] theorem modUnit_pending (u : UnitNo) (f : UnitEntry → UnitEntry) :
    (modUnit u f s).pending = s.pending := rfl

/-! ### emit -/

@[simp] theorem emit_powered (e : Emission) : (emit e s).powered = s.powered := rfl
@[simp] theorem emit_bypassOpen (e : Emission) : (emit e s).bypassOpen = s.bypassOpen := rfl
@[simp] theorem emit_joinedUnit (e : Emission) : (emit e s).joinedUnit = s.joinedUnit := rfl
@[simp] theorem emit_joinedOp (e : Emission) : (emit e s).joinedOp = s.joinedOp := rfl
@[simp] theorem emit_units (e : Emission) : (emit e s).units = s.units := rfl
@[simp] theorem emit_controllerUnit (e : Emission) : (emit e s).controllerUnit = s.controllerUnit := rfl
@[simp] theorem emit_holdLimit (e : Emission) : (emit e s).holdLimit = s.holdLimit := rfl
@[simp] theorem emit_current (e : Emission) : (emit e s).current = s.current := rfl
@[simp] theorem emit_items (e : Emission) : (emit e s).items = s.items := rfl
@[simp] theorem emit_grant (e : Emission) : (emit e s).grant = s.grant := rfl
@[simp] theorem emit_selected (e : Emission) : (emit e s).selected = s.selected := rfl
@[simp] theorem emit_slots (e : Emission) : (emit e s).slots = s.slots := rfl
@[simp] theorem emit_banks (e : Emission) : (emit e s).banks = s.banks := rfl
@[simp] theorem emit_jobs (e : Emission) : (emit e s).jobs = s.jobs := rfl
@[simp] theorem emit_nextJob (e : Emission) : (emit e s).nextJob = s.nextJob := rfl
@[simp] theorem emit_plans (e : Emission) : (emit e s).plans = s.plans := rfl
@[simp] theorem emit_q (e : Emission) : (emit e s).q = s.q := rfl
@[simp] theorem emit_t (e : Emission) : (emit e s).t = s.t := rfl
@[simp] theorem emit_store (e : Emission) : (emit e s).store = s.store := rfl
@[simp] theorem emit_storeFull (e : Emission) : (emit e s).storeFull = s.storeFull := rfl
@[simp] theorem emit_records (e : Emission) : (emit e s).records = s.records := rfl
@[simp] theorem emit_gapPending (e : Emission) : (emit e s).gapPending = s.gapPending := rfl
@[simp] theorem emit_response (e : Emission) : (emit e s).response = s.response := rfl
@[simp] theorem emit_readMark (e : Emission) : (emit e s).readMark = s.readMark := rfl
@[simp] theorem emit_notices (e : Emission) : (emit e s).notices = s.notices := rfl
@[simp] theorem emit_out (e : Emission) : (emit e s).out = s.out ++ [e] := rfl
@[simp] theorem emit_noise (e : Emission) : (emit e s).noise = s.noise := rfl
@[simp] theorem emit_pending (e : Emission) : (emit e s).pending = s.pending := rfl

/-! ### modJob -/

@[simp] theorem modJob_powered (n : Nat) (f : Job → Job) : (modJob n f s).powered = s.powered := rfl
@[simp] theorem modJob_bypassOpen (n : Nat) (f : Job → Job) :
    (modJob n f s).bypassOpen = s.bypassOpen := rfl
@[simp] theorem modJob_joinedUnit (n : Nat) (f : Job → Job) : (modJob n f s).joinedUnit = s.joinedUnit := rfl
@[simp] theorem modJob_joinedOp (n : Nat) (f : Job → Job) : (modJob n f s).joinedOp = s.joinedOp := rfl
@[simp] theorem modJob_units (n : Nat) (f : Job → Job) : (modJob n f s).units = s.units := rfl
@[simp] theorem modJob_controllerUnit (n : Nat) (f : Job → Job) :
    (modJob n f s).controllerUnit = s.controllerUnit := rfl
@[simp] theorem modJob_holdLimit (n : Nat) (f : Job → Job) : (modJob n f s).holdLimit = s.holdLimit := rfl
@[simp] theorem modJob_current (n : Nat) (f : Job → Job) : (modJob n f s).current = s.current := rfl
@[simp] theorem modJob_items (n : Nat) (f : Job → Job) : (modJob n f s).items = s.items := rfl
@[simp] theorem modJob_grant (n : Nat) (f : Job → Job) : (modJob n f s).grant = s.grant := rfl
@[simp] theorem modJob_selected (n : Nat) (f : Job → Job) : (modJob n f s).selected = s.selected := rfl
@[simp] theorem modJob_slots (n : Nat) (f : Job → Job) : (modJob n f s).slots = s.slots := rfl
@[simp] theorem modJob_banks (n : Nat) (f : Job → Job) : (modJob n f s).banks = s.banks := rfl
@[simp] theorem modJob_jobs (n : Nat) (f : Job → Job) :
    (modJob n f s).jobs = s.jobs.map fun e => e.map fun j => if j.number = n then f j else j := rfl
@[simp] theorem modJob_nextJob (n : Nat) (f : Job → Job) : (modJob n f s).nextJob = s.nextJob := rfl
@[simp] theorem modJob_plans (n : Nat) (f : Job → Job) : (modJob n f s).plans = s.plans := rfl
@[simp] theorem modJob_q (n : Nat) (f : Job → Job) : (modJob n f s).q = s.q := rfl
@[simp] theorem modJob_t (n : Nat) (f : Job → Job) : (modJob n f s).t = s.t := rfl
@[simp] theorem modJob_store (n : Nat) (f : Job → Job) : (modJob n f s).store = s.store := rfl
@[simp] theorem modJob_storeFull (n : Nat) (f : Job → Job) : (modJob n f s).storeFull = s.storeFull := rfl
@[simp] theorem modJob_records (n : Nat) (f : Job → Job) : (modJob n f s).records = s.records := rfl
@[simp] theorem modJob_gapPending (n : Nat) (f : Job → Job) :
    (modJob n f s).gapPending = s.gapPending := rfl
@[simp] theorem modJob_response (n : Nat) (f : Job → Job) : (modJob n f s).response = s.response := rfl
@[simp] theorem modJob_readMark (n : Nat) (f : Job → Job) : (modJob n f s).readMark = s.readMark := rfl
@[simp] theorem modJob_notices (n : Nat) (f : Job → Job) : (modJob n f s).notices = s.notices := rfl
@[simp] theorem modJob_out (n : Nat) (f : Job → Job) : (modJob n f s).out = s.out := rfl
@[simp] theorem modJob_noise (n : Nat) (f : Job → Job) : (modJob n f s).noise = s.noise := rfl
@[simp] theorem modJob_pending (n : Nat) (f : Job → Job) : (modJob n f s).pending = s.pending := rfl

/-! ### dropJob -/

@[simp] theorem dropJob_powered (n : Nat) : (dropJob n s).powered = s.powered := rfl
@[simp] theorem dropJob_bypassOpen (n : Nat) : (dropJob n s).bypassOpen = s.bypassOpen := rfl
@[simp] theorem dropJob_joinedUnit (n : Nat) : (dropJob n s).joinedUnit = s.joinedUnit := rfl
@[simp] theorem dropJob_joinedOp (n : Nat) : (dropJob n s).joinedOp = s.joinedOp := rfl
@[simp] theorem dropJob_units (n : Nat) : (dropJob n s).units = s.units := rfl
@[simp] theorem dropJob_controllerUnit (n : Nat) : (dropJob n s).controllerUnit = s.controllerUnit := rfl
@[simp] theorem dropJob_holdLimit (n : Nat) : (dropJob n s).holdLimit = s.holdLimit := rfl
@[simp] theorem dropJob_current (n : Nat) : (dropJob n s).current = s.current := rfl
@[simp] theorem dropJob_items (n : Nat) : (dropJob n s).items = s.items := rfl
@[simp] theorem dropJob_grant (n : Nat) : (dropJob n s).grant = s.grant := rfl
@[simp] theorem dropJob_selected (n : Nat) : (dropJob n s).selected = s.selected := rfl
@[simp] theorem dropJob_slots (n : Nat) : (dropJob n s).slots = s.slots := rfl
@[simp] theorem dropJob_banks (n : Nat) : (dropJob n s).banks = s.banks := rfl
@[simp] theorem dropJob_jobs (n : Nat) :
    (dropJob n s).jobs = s.jobs.map fun e => e.filter fun j => j.number ≠ n := rfl
@[simp] theorem dropJob_nextJob (n : Nat) : (dropJob n s).nextJob = s.nextJob := rfl
@[simp] theorem dropJob_plans (n : Nat) : (dropJob n s).plans = s.plans := rfl
@[simp] theorem dropJob_q (n : Nat) : (dropJob n s).q = s.q := rfl
@[simp] theorem dropJob_t (n : Nat) : (dropJob n s).t = s.t := rfl
@[simp] theorem dropJob_store (n : Nat) : (dropJob n s).store = s.store := rfl
@[simp] theorem dropJob_storeFull (n : Nat) : (dropJob n s).storeFull = s.storeFull := rfl
@[simp] theorem dropJob_records (n : Nat) : (dropJob n s).records = s.records := rfl
@[simp] theorem dropJob_gapPending (n : Nat) : (dropJob n s).gapPending = s.gapPending := rfl
@[simp] theorem dropJob_response (n : Nat) : (dropJob n s).response = s.response := rfl
@[simp] theorem dropJob_readMark (n : Nat) : (dropJob n s).readMark = s.readMark := rfl
@[simp] theorem dropJob_notices (n : Nat) : (dropJob n s).notices = s.notices := rfl
@[simp] theorem dropJob_out (n : Nat) : (dropJob n s).out = s.out := rfl
@[simp] theorem dropJob_noise (n : Nat) : (dropJob n s).noise = s.noise := rfl
@[simp] theorem dropJob_pending (n : Nat) : (dropJob n s).pending = s.pending := rfl

/-! ### modSlot -/

@[simp] theorem modSlot_powered (i : SlotId) (f : Slot → Slot) : (modSlot i f s).powered = s.powered := rfl
@[simp] theorem modSlot_bypassOpen (i : SlotId) (f : Slot → Slot) :
    (modSlot i f s).bypassOpen = s.bypassOpen := rfl
@[simp] theorem modSlot_joinedUnit (i : SlotId) (f : Slot → Slot) :
    (modSlot i f s).joinedUnit = s.joinedUnit := rfl
@[simp] theorem modSlot_joinedOp (i : SlotId) (f : Slot → Slot) : (modSlot i f s).joinedOp = s.joinedOp := rfl
@[simp] theorem modSlot_units (i : SlotId) (f : Slot → Slot) : (modSlot i f s).units = s.units := rfl
@[simp] theorem modSlot_controllerUnit (i : SlotId) (f : Slot → Slot) :
    (modSlot i f s).controllerUnit = s.controllerUnit := rfl
@[simp] theorem modSlot_holdLimit (i : SlotId) (f : Slot → Slot) :
    (modSlot i f s).holdLimit = s.holdLimit := rfl
@[simp] theorem modSlot_current (i : SlotId) (f : Slot → Slot) : (modSlot i f s).current = s.current := rfl
@[simp] theorem modSlot_items (i : SlotId) (f : Slot → Slot) : (modSlot i f s).items = s.items := rfl
@[simp] theorem modSlot_grant (i : SlotId) (f : Slot → Slot) : (modSlot i f s).grant = s.grant := rfl
@[simp] theorem modSlot_selected (i : SlotId) (f : Slot → Slot) :
    (modSlot i f s).selected = s.selected := rfl
@[simp] theorem modSlot_slots (i : SlotId) (f : Slot → Slot) :
    (modSlot i f s).slots = s.slots.set i (f (s.slot i)) := rfl
@[simp] theorem modSlot_banks (i : SlotId) (f : Slot → Slot) : (modSlot i f s).banks = s.banks := rfl
@[simp] theorem modSlot_jobs (i : SlotId) (f : Slot → Slot) : (modSlot i f s).jobs = s.jobs := rfl
@[simp] theorem modSlot_nextJob (i : SlotId) (f : Slot → Slot) : (modSlot i f s).nextJob = s.nextJob := rfl
@[simp] theorem modSlot_plans (i : SlotId) (f : Slot → Slot) : (modSlot i f s).plans = s.plans := rfl
@[simp] theorem modSlot_q (i : SlotId) (f : Slot → Slot) : (modSlot i f s).q = s.q := rfl
@[simp] theorem modSlot_t (i : SlotId) (f : Slot → Slot) : (modSlot i f s).t = s.t := rfl
@[simp] theorem modSlot_store (i : SlotId) (f : Slot → Slot) : (modSlot i f s).store = s.store := rfl
@[simp] theorem modSlot_storeFull (i : SlotId) (f : Slot → Slot) :
    (modSlot i f s).storeFull = s.storeFull := rfl
@[simp] theorem modSlot_records (i : SlotId) (f : Slot → Slot) : (modSlot i f s).records = s.records := rfl
@[simp] theorem modSlot_gapPending (i : SlotId) (f : Slot → Slot) :
    (modSlot i f s).gapPending = s.gapPending := rfl
@[simp] theorem modSlot_response (i : SlotId) (f : Slot → Slot) :
    (modSlot i f s).response = s.response := rfl
@[simp] theorem modSlot_readMark (i : SlotId) (f : Slot → Slot) :
    (modSlot i f s).readMark = s.readMark := rfl
@[simp] theorem modSlot_notices (i : SlotId) (f : Slot → Slot) : (modSlot i f s).notices = s.notices := rfl
@[simp] theorem modSlot_out (i : SlotId) (f : Slot → Slot) : (modSlot i f s).out = s.out := rfl
@[simp] theorem modSlot_noise (i : SlotId) (f : Slot → Slot) : (modSlot i f s).noise = s.noise := rfl
@[simp] theorem modSlot_pending (i : SlotId) (f : Slot → Slot) : (modSlot i f s).pending = s.pending := rfl

/-! ### addItem -/

@[simp] theorem addItem_powered (i : Item) : (addItem i s).powered = s.powered := rfl
@[simp] theorem addItem_bypassOpen (i : Item) : (addItem i s).bypassOpen = s.bypassOpen := rfl
@[simp] theorem addItem_joinedUnit (i : Item) : (addItem i s).joinedUnit = s.joinedUnit := rfl
@[simp] theorem addItem_joinedOp (i : Item) : (addItem i s).joinedOp = s.joinedOp := rfl
@[simp] theorem addItem_units (i : Item) : (addItem i s).units = s.units := rfl
@[simp] theorem addItem_controllerUnit (i : Item) : (addItem i s).controllerUnit = s.controllerUnit := rfl
@[simp] theorem addItem_holdLimit (i : Item) : (addItem i s).holdLimit = s.holdLimit := rfl
@[simp] theorem addItem_current (i : Item) : (addItem i s).current = s.current := rfl
@[simp] theorem addItem_items (i : Item) : (addItem i s).items = s.items ++ [i] := rfl
@[simp] theorem addItem_grant (i : Item) : (addItem i s).grant = s.grant := rfl
@[simp] theorem addItem_selected (i : Item) : (addItem i s).selected = s.selected := rfl
@[simp] theorem addItem_slots (i : Item) : (addItem i s).slots = s.slots := rfl
@[simp] theorem addItem_banks (i : Item) : (addItem i s).banks = s.banks := rfl
@[simp] theorem addItem_jobs (i : Item) : (addItem i s).jobs = s.jobs := rfl
@[simp] theorem addItem_nextJob (i : Item) : (addItem i s).nextJob = s.nextJob := rfl
@[simp] theorem addItem_plans (i : Item) : (addItem i s).plans = s.plans := rfl
@[simp] theorem addItem_q (i : Item) : (addItem i s).q = s.q := rfl
@[simp] theorem addItem_t (i : Item) : (addItem i s).t = s.t := rfl
@[simp] theorem addItem_store (i : Item) : (addItem i s).store = s.store := rfl
@[simp] theorem addItem_storeFull (i : Item) : (addItem i s).storeFull = s.storeFull := rfl
@[simp] theorem addItem_records (i : Item) : (addItem i s).records = s.records := rfl
@[simp] theorem addItem_gapPending (i : Item) : (addItem i s).gapPending = s.gapPending := rfl
@[simp] theorem addItem_response (i : Item) : (addItem i s).response = s.response := rfl
@[simp] theorem addItem_readMark (i : Item) : (addItem i s).readMark = s.readMark := rfl
@[simp] theorem addItem_notices (i : Item) : (addItem i s).notices = s.notices := rfl
@[simp] theorem addItem_out (i : Item) : (addItem i s).out = s.out := rfl
@[simp] theorem addItem_noise (i : Item) : (addItem i s).noise = s.noise := rfl
@[simp] theorem addItem_pending (i : Item) : (addItem i s).pending = s.pending := rfl

/-! ### dropSettledMargins -/

@[simp] theorem dropSettledMargins_powered : (dropSettledMargins s).powered = s.powered := rfl
@[simp] theorem dropSettledMargins_bypassOpen : (dropSettledMargins s).bypassOpen = s.bypassOpen := rfl
@[simp] theorem dropSettledMargins_joinedUnit : (dropSettledMargins s).joinedUnit = s.joinedUnit := rfl
@[simp] theorem dropSettledMargins_joinedOp : (dropSettledMargins s).joinedOp = s.joinedOp := rfl
@[simp] theorem dropSettledMargins_units : (dropSettledMargins s).units = s.units := rfl
@[simp] theorem dropSettledMargins_controllerUnit :
    (dropSettledMargins s).controllerUnit = s.controllerUnit := rfl
@[simp] theorem dropSettledMargins_holdLimit : (dropSettledMargins s).holdLimit = s.holdLimit := rfl
@[simp] theorem dropSettledMargins_current : (dropSettledMargins s).current = s.current := rfl
@[simp] theorem dropSettledMargins_grant : (dropSettledMargins s).grant = s.grant := rfl
@[simp] theorem dropSettledMargins_selected : (dropSettledMargins s).selected = s.selected := rfl
@[simp] theorem dropSettledMargins_slots : (dropSettledMargins s).slots = s.slots := rfl
@[simp] theorem dropSettledMargins_banks : (dropSettledMargins s).banks = s.banks := rfl
@[simp] theorem dropSettledMargins_jobs : (dropSettledMargins s).jobs = s.jobs := rfl
@[simp] theorem dropSettledMargins_nextJob : (dropSettledMargins s).nextJob = s.nextJob := rfl
@[simp] theorem dropSettledMargins_plans : (dropSettledMargins s).plans = s.plans := rfl
@[simp] theorem dropSettledMargins_q : (dropSettledMargins s).q = s.q := rfl
@[simp] theorem dropSettledMargins_t : (dropSettledMargins s).t = s.t := rfl
@[simp] theorem dropSettledMargins_store : (dropSettledMargins s).store = s.store := rfl
@[simp] theorem dropSettledMargins_storeFull : (dropSettledMargins s).storeFull = s.storeFull := rfl
@[simp] theorem dropSettledMargins_records : (dropSettledMargins s).records = s.records := rfl
@[simp] theorem dropSettledMargins_gapPending : (dropSettledMargins s).gapPending = s.gapPending := rfl
@[simp] theorem dropSettledMargins_response : (dropSettledMargins s).response = s.response := rfl
@[simp] theorem dropSettledMargins_readMark : (dropSettledMargins s).readMark = s.readMark := rfl
@[simp] theorem dropSettledMargins_notices : (dropSettledMargins s).notices = s.notices := rfl
@[simp] theorem dropSettledMargins_out : (dropSettledMargins s).out = s.out := rfl
@[simp] theorem dropSettledMargins_noise : (dropSettledMargins s).noise = s.noise := rfl
@[simp] theorem dropSettledMargins_pending : (dropSettledMargins s).pending = s.pending := rfl

/-! ### dropSeekItems -/

@[simp] theorem dropSeekItems_powered (u : UnitNo) : (dropSeekItems u s).powered = s.powered := rfl
@[simp] theorem dropSeekItems_bypassOpen (u : UnitNo) : (dropSeekItems u s).bypassOpen = s.bypassOpen := rfl
@[simp] theorem dropSeekItems_joinedUnit (u : UnitNo) : (dropSeekItems u s).joinedUnit = s.joinedUnit := rfl
@[simp] theorem dropSeekItems_joinedOp (u : UnitNo) : (dropSeekItems u s).joinedOp = s.joinedOp := rfl
@[simp] theorem dropSeekItems_units (u : UnitNo) : (dropSeekItems u s).units = s.units := rfl
@[simp] theorem dropSeekItems_controllerUnit (u : UnitNo) :
    (dropSeekItems u s).controllerUnit = s.controllerUnit := rfl
@[simp] theorem dropSeekItems_holdLimit (u : UnitNo) : (dropSeekItems u s).holdLimit = s.holdLimit := rfl
@[simp] theorem dropSeekItems_current (u : UnitNo) : (dropSeekItems u s).current = s.current := rfl
@[simp] theorem dropSeekItems_items (u : UnitNo) :
    (dropSeekItems u s).items = s.items.filter fun i => !i.isSeekOf u := rfl
@[simp] theorem dropSeekItems_grant (u : UnitNo) : (dropSeekItems u s).grant = s.grant := rfl
@[simp] theorem dropSeekItems_selected (u : UnitNo) : (dropSeekItems u s).selected = s.selected := rfl
@[simp] theorem dropSeekItems_slots (u : UnitNo) : (dropSeekItems u s).slots = s.slots := rfl
@[simp] theorem dropSeekItems_banks (u : UnitNo) : (dropSeekItems u s).banks = s.banks := rfl
@[simp] theorem dropSeekItems_jobs (u : UnitNo) : (dropSeekItems u s).jobs = s.jobs := rfl
@[simp] theorem dropSeekItems_nextJob (u : UnitNo) : (dropSeekItems u s).nextJob = s.nextJob := rfl
@[simp] theorem dropSeekItems_plans (u : UnitNo) : (dropSeekItems u s).plans = s.plans := rfl
@[simp] theorem dropSeekItems_q (u : UnitNo) : (dropSeekItems u s).q = s.q := rfl
@[simp] theorem dropSeekItems_t (u : UnitNo) : (dropSeekItems u s).t = s.t := rfl
@[simp] theorem dropSeekItems_store (u : UnitNo) : (dropSeekItems u s).store = s.store := rfl
@[simp] theorem dropSeekItems_storeFull (u : UnitNo) : (dropSeekItems u s).storeFull = s.storeFull := rfl
@[simp] theorem dropSeekItems_records (u : UnitNo) : (dropSeekItems u s).records = s.records := rfl
@[simp] theorem dropSeekItems_gapPending (u : UnitNo) : (dropSeekItems u s).gapPending = s.gapPending := rfl
@[simp] theorem dropSeekItems_response (u : UnitNo) : (dropSeekItems u s).response = s.response := rfl
@[simp] theorem dropSeekItems_readMark (u : UnitNo) : (dropSeekItems u s).readMark = s.readMark := rfl
@[simp] theorem dropSeekItems_notices (u : UnitNo) : (dropSeekItems u s).notices = s.notices := rfl
@[simp] theorem dropSeekItems_out (u : UnitNo) : (dropSeekItems u s).out = s.out := rfl
@[simp] theorem dropSeekItems_noise (u : UnitNo) : (dropSeekItems u s).noise = s.noise := rfl
@[simp] theorem dropSeekItems_pending (u : UnitNo) : (dropSeekItems u s).pending = s.pending := rfl

/-! ### dropIssuedSeek -/

@[simp] theorem dropIssuedSeek_powered (u : UnitNo) : (dropIssuedSeek u s).powered = s.powered := rfl
@[simp] theorem dropIssuedSeek_bypassOpen (u : UnitNo) :
    (dropIssuedSeek u s).bypassOpen = s.bypassOpen := rfl
@[simp] theorem dropIssuedSeek_joinedUnit (u : UnitNo) : (dropIssuedSeek u s).joinedUnit = s.joinedUnit := rfl
@[simp] theorem dropIssuedSeek_joinedOp (u : UnitNo) : (dropIssuedSeek u s).joinedOp = s.joinedOp := rfl
@[simp] theorem dropIssuedSeek_units (u : UnitNo) : (dropIssuedSeek u s).units = s.units := rfl
@[simp] theorem dropIssuedSeek_controllerUnit (u : UnitNo) :
    (dropIssuedSeek u s).controllerUnit = s.controllerUnit := rfl
@[simp] theorem dropIssuedSeek_holdLimit (u : UnitNo) : (dropIssuedSeek u s).holdLimit = s.holdLimit := rfl
@[simp] theorem dropIssuedSeek_current (u : UnitNo) : (dropIssuedSeek u s).current = s.current := rfl
@[simp] theorem dropIssuedSeek_items (u : UnitNo) :
    (dropIssuedSeek u s).items = s.items.filter fun i => !i.isIssuedSeekOf u := rfl
@[simp] theorem dropIssuedSeek_grant (u : UnitNo) : (dropIssuedSeek u s).grant = s.grant := rfl
@[simp] theorem dropIssuedSeek_selected (u : UnitNo) : (dropIssuedSeek u s).selected = s.selected := rfl
@[simp] theorem dropIssuedSeek_slots (u : UnitNo) : (dropIssuedSeek u s).slots = s.slots := rfl
@[simp] theorem dropIssuedSeek_banks (u : UnitNo) : (dropIssuedSeek u s).banks = s.banks := rfl
@[simp] theorem dropIssuedSeek_jobs (u : UnitNo) : (dropIssuedSeek u s).jobs = s.jobs := rfl
@[simp] theorem dropIssuedSeek_nextJob (u : UnitNo) : (dropIssuedSeek u s).nextJob = s.nextJob := rfl
@[simp] theorem dropIssuedSeek_plans (u : UnitNo) : (dropIssuedSeek u s).plans = s.plans := rfl
@[simp] theorem dropIssuedSeek_q (u : UnitNo) : (dropIssuedSeek u s).q = s.q := rfl
@[simp] theorem dropIssuedSeek_t (u : UnitNo) : (dropIssuedSeek u s).t = s.t := rfl
@[simp] theorem dropIssuedSeek_store (u : UnitNo) : (dropIssuedSeek u s).store = s.store := rfl
@[simp] theorem dropIssuedSeek_storeFull (u : UnitNo) : (dropIssuedSeek u s).storeFull = s.storeFull := rfl
@[simp] theorem dropIssuedSeek_records (u : UnitNo) : (dropIssuedSeek u s).records = s.records := rfl
@[simp] theorem dropIssuedSeek_gapPending (u : UnitNo) :
    (dropIssuedSeek u s).gapPending = s.gapPending := rfl
@[simp] theorem dropIssuedSeek_response (u : UnitNo) : (dropIssuedSeek u s).response = s.response := rfl
@[simp] theorem dropIssuedSeek_readMark (u : UnitNo) : (dropIssuedSeek u s).readMark = s.readMark := rfl
@[simp] theorem dropIssuedSeek_notices (u : UnitNo) : (dropIssuedSeek u s).notices = s.notices := rfl
@[simp] theorem dropIssuedSeek_out (u : UnitNo) : (dropIssuedSeek u s).out = s.out := rfl
@[simp] theorem dropIssuedSeek_noise (u : UnitNo) : (dropIssuedSeek u s).noise = s.noise := rfl
@[simp] theorem dropIssuedSeek_pending (u : UnitNo) : (dropIssuedSeek u s).pending = s.pending := rfl

/-! ### clearOperation -/

@[simp] theorem clearOperation_powered : (clearOperation s).powered = s.powered := rfl
@[simp] theorem clearOperation_bypassOpen : (clearOperation s).bypassOpen = s.bypassOpen := rfl
@[simp] theorem clearOperation_joinedUnit : (clearOperation s).joinedUnit = s.joinedUnit := rfl
@[simp] theorem clearOperation_joinedOp : (clearOperation s).joinedOp = s.joinedOp := rfl
@[simp] theorem clearOperation_units : (clearOperation s).units = s.units := rfl
@[simp] theorem clearOperation_controllerUnit : (clearOperation s).controllerUnit = s.controllerUnit := rfl
@[simp] theorem clearOperation_holdLimit : (clearOperation s).holdLimit = s.holdLimit := rfl
@[simp] theorem clearOperation_current : (clearOperation s).current = none := rfl
@[simp] theorem clearOperation_items :
    (clearOperation s).items = s.items.filter fun i => !i.isOperation := rfl
@[simp] theorem clearOperation_grant : (clearOperation s).grant = s.grant := rfl
@[simp] theorem clearOperation_selected : (clearOperation s).selected = s.selected := rfl
@[simp] theorem clearOperation_slots : (clearOperation s).slots = s.slots := rfl
@[simp] theorem clearOperation_banks : (clearOperation s).banks = s.banks := rfl
@[simp] theorem clearOperation_jobs : (clearOperation s).jobs = s.jobs := rfl
@[simp] theorem clearOperation_nextJob : (clearOperation s).nextJob = s.nextJob := rfl
@[simp] theorem clearOperation_plans : (clearOperation s).plans = s.plans := rfl
@[simp] theorem clearOperation_q : (clearOperation s).q = s.q := rfl
@[simp] theorem clearOperation_t : (clearOperation s).t = s.t := rfl
@[simp] theorem clearOperation_store : (clearOperation s).store = s.store := rfl
@[simp] theorem clearOperation_storeFull : (clearOperation s).storeFull = s.storeFull := rfl
@[simp] theorem clearOperation_records : (clearOperation s).records = s.records := rfl
@[simp] theorem clearOperation_gapPending : (clearOperation s).gapPending = s.gapPending := rfl
@[simp] theorem clearOperation_response : (clearOperation s).response = s.response := rfl
@[simp] theorem clearOperation_readMark : (clearOperation s).readMark = s.readMark := rfl
@[simp] theorem clearOperation_notices : (clearOperation s).notices = s.notices := rfl
@[simp] theorem clearOperation_out : (clearOperation s).out = s.out := rfl
@[simp] theorem clearOperation_noise : (clearOperation s).noise = s.noise := rfl
@[simp] theorem clearOperation_pending : (clearOperation s).pending = s.pending := rfl

/-! ### beginCommand -/

@[simp] theorem beginCommand_powered (n : List ReadoutNoise) : (beginCommand n s).powered = s.powered := rfl
@[simp] theorem beginCommand_bypassOpen (n : List ReadoutNoise) :
    (beginCommand n s).bypassOpen = s.bypassOpen := rfl
@[simp] theorem beginCommand_joinedUnit (n : List ReadoutNoise) :
    (beginCommand n s).joinedUnit = s.joinedUnit := rfl
@[simp] theorem beginCommand_joinedOp (n : List ReadoutNoise) :
    (beginCommand n s).joinedOp = s.joinedOp := rfl
@[simp] theorem beginCommand_units (n : List ReadoutNoise) : (beginCommand n s).units = s.units := rfl
@[simp] theorem beginCommand_controllerUnit (n : List ReadoutNoise) :
    (beginCommand n s).controllerUnit = s.controllerUnit := rfl
@[simp] theorem beginCommand_holdLimit (n : List ReadoutNoise) :
    (beginCommand n s).holdLimit = s.holdLimit := rfl
@[simp] theorem beginCommand_current (n : List ReadoutNoise) : (beginCommand n s).current = s.current := rfl
@[simp] theorem beginCommand_items (n : List ReadoutNoise) : (beginCommand n s).items = s.items := rfl
@[simp] theorem beginCommand_grant (n : List ReadoutNoise) : (beginCommand n s).grant = s.grant := rfl
@[simp] theorem beginCommand_selected (n : List ReadoutNoise) :
    (beginCommand n s).selected = s.selected := rfl
@[simp] theorem beginCommand_slots (n : List ReadoutNoise) : (beginCommand n s).slots = s.slots := rfl
@[simp] theorem beginCommand_banks (n : List ReadoutNoise) : (beginCommand n s).banks = s.banks := rfl
@[simp] theorem beginCommand_jobs (n : List ReadoutNoise) : (beginCommand n s).jobs = s.jobs := rfl
@[simp] theorem beginCommand_nextJob (n : List ReadoutNoise) : (beginCommand n s).nextJob = s.nextJob := rfl
@[simp] theorem beginCommand_plans (n : List ReadoutNoise) : (beginCommand n s).plans = s.plans := rfl
@[simp] theorem beginCommand_q (n : List ReadoutNoise) : (beginCommand n s).q = s.q := rfl
@[simp] theorem beginCommand_t (n : List ReadoutNoise) : (beginCommand n s).t = s.t := rfl
@[simp] theorem beginCommand_store (n : List ReadoutNoise) : (beginCommand n s).store = s.store := rfl
@[simp] theorem beginCommand_storeFull (n : List ReadoutNoise) :
    (beginCommand n s).storeFull = s.storeFull := rfl
@[simp] theorem beginCommand_records (n : List ReadoutNoise) : (beginCommand n s).records = s.records := rfl
@[simp] theorem beginCommand_gapPending (n : List ReadoutNoise) :
    (beginCommand n s).gapPending = s.gapPending := rfl
@[simp] theorem beginCommand_response (n : List ReadoutNoise) :
    (beginCommand n s).response = s.response := rfl
@[simp] theorem beginCommand_readMark (n : List ReadoutNoise) :
    (beginCommand n s).readMark = s.readMark := rfl
@[simp] theorem beginCommand_notices (n : List ReadoutNoise) : (beginCommand n s).notices = s.notices := rfl
@[simp] theorem beginCommand_out (n : List ReadoutNoise) : (beginCommand n s).out = [] := rfl
@[simp] theorem beginCommand_noise (n : List ReadoutNoise) : (beginCommand n s).noise = n := rfl
@[simp] theorem beginCommand_pending (n : List ReadoutNoise) : (beginCommand n s).pending = s.pending := rfl

/-! ### endCommand -/

@[simp] theorem endCommand_powered : (endCommand s).powered = s.powered := rfl
@[simp] theorem endCommand_bypassOpen : (endCommand s).bypassOpen = s.bypassOpen := rfl
@[simp] theorem endCommand_joinedUnit : (endCommand s).joinedUnit = s.joinedUnit := rfl
@[simp] theorem endCommand_joinedOp : (endCommand s).joinedOp = s.joinedOp := rfl
@[simp] theorem endCommand_units : (endCommand s).units = s.units := rfl
@[simp] theorem endCommand_controllerUnit : (endCommand s).controllerUnit = s.controllerUnit := rfl
@[simp] theorem endCommand_holdLimit : (endCommand s).holdLimit = s.holdLimit := rfl
@[simp] theorem endCommand_current : (endCommand s).current = s.current := rfl
@[simp] theorem endCommand_items : (endCommand s).items = s.items := rfl
@[simp] theorem endCommand_grant : (endCommand s).grant = s.grant := rfl
@[simp] theorem endCommand_selected : (endCommand s).selected = s.selected := rfl
@[simp] theorem endCommand_slots : (endCommand s).slots = s.slots := rfl
@[simp] theorem endCommand_banks : (endCommand s).banks = s.banks := rfl
@[simp] theorem endCommand_jobs : (endCommand s).jobs = s.jobs := rfl
@[simp] theorem endCommand_nextJob : (endCommand s).nextJob = s.nextJob := rfl
@[simp] theorem endCommand_plans : (endCommand s).plans = s.plans := rfl
@[simp] theorem endCommand_q : (endCommand s).q = s.q := rfl
@[simp] theorem endCommand_t : (endCommand s).t = s.t := rfl
@[simp] theorem endCommand_store : (endCommand s).store = s.store := rfl
@[simp] theorem endCommand_storeFull : (endCommand s).storeFull = s.storeFull := rfl
@[simp] theorem endCommand_records : (endCommand s).records = s.records := rfl
@[simp] theorem endCommand_gapPending : (endCommand s).gapPending = s.gapPending := rfl
@[simp] theorem endCommand_response : (endCommand s).response = s.response := rfl
@[simp] theorem endCommand_readMark : (endCommand s).readMark = s.readMark := rfl
@[simp] theorem endCommand_notices : (endCommand s).notices = s.notices := rfl
@[simp] theorem endCommand_out : (endCommand s).out = s.out := rfl
@[simp] theorem endCommand_noise : (endCommand s).noise = [] := rfl
@[simp] theorem endCommand_pending : (endCommand s).pending = s.pending := rfl

/-! ### modEntry -/

@[simp] theorem modEntry_powered (k : Addr) (f : Entry → Entry) :
    (modEntry k f s).powered = s.powered := rfl
@[simp] theorem modEntry_bypassOpen (k : Addr) (f : Entry → Entry) :
    (modEntry k f s).bypassOpen = s.bypassOpen := rfl
@[simp] theorem modEntry_joinedUnit (k : Addr) (f : Entry → Entry) :
    (modEntry k f s).joinedUnit = s.joinedUnit := rfl
@[simp] theorem modEntry_joinedOp (k : Addr) (f : Entry → Entry) :
    (modEntry k f s).joinedOp = s.joinedOp := rfl
@[simp] theorem modEntry_units (k : Addr) (f : Entry → Entry) : (modEntry k f s).units = s.units := rfl
@[simp] theorem modEntry_controllerUnit (k : Addr) (f : Entry → Entry) :
    (modEntry k f s).controllerUnit = s.controllerUnit := rfl
@[simp] theorem modEntry_holdLimit (k : Addr) (f : Entry → Entry) :
    (modEntry k f s).holdLimit = s.holdLimit := rfl
@[simp] theorem modEntry_current (k : Addr) (f : Entry → Entry) :
    (modEntry k f s).current = s.current := rfl
@[simp] theorem modEntry_items (k : Addr) (f : Entry → Entry) : (modEntry k f s).items = s.items := rfl
@[simp] theorem modEntry_grant (k : Addr) (f : Entry → Entry) : (modEntry k f s).grant = s.grant := rfl
@[simp] theorem modEntry_selected (k : Addr) (f : Entry → Entry) :
    (modEntry k f s).selected = s.selected := rfl
@[simp] theorem modEntry_slots (k : Addr) (f : Entry → Entry) : (modEntry k f s).slots = s.slots := rfl
@[simp] theorem modEntry_banks (k : Addr) (f : Entry → Entry) : (modEntry k f s).banks = s.banks := rfl
@[simp] theorem modEntry_jobs (k : Addr) (f : Entry → Entry) : (modEntry k f s).jobs = s.jobs := rfl
@[simp] theorem modEntry_nextJob (k : Addr) (f : Entry → Entry) :
    (modEntry k f s).nextJob = s.nextJob := rfl
@[simp] theorem modEntry_plans (k : Addr) (f : Entry → Entry) : (modEntry k f s).plans = s.plans := rfl
@[simp] theorem modEntry_q (k : Addr) (f : Entry → Entry) : (modEntry k f s).q = s.q := rfl
@[simp] theorem modEntry_t (k : Addr) (f : Entry → Entry) : (modEntry k f s).t = s.t := rfl
@[simp] theorem modEntry_store (k : Addr) (f : Entry → Entry) :
    (modEntry k f s).store = s.store.map fun e => if e.key = k then f e else e := rfl
@[simp] theorem modEntry_storeFull (k : Addr) (f : Entry → Entry) :
    (modEntry k f s).storeFull = s.storeFull := rfl
@[simp] theorem modEntry_records (k : Addr) (f : Entry → Entry) :
    (modEntry k f s).records = s.records := rfl
@[simp] theorem modEntry_gapPending (k : Addr) (f : Entry → Entry) :
    (modEntry k f s).gapPending = s.gapPending := rfl
@[simp] theorem modEntry_response (k : Addr) (f : Entry → Entry) :
    (modEntry k f s).response = s.response := rfl
@[simp] theorem modEntry_readMark (k : Addr) (f : Entry → Entry) :
    (modEntry k f s).readMark = s.readMark := rfl
@[simp] theorem modEntry_notices (k : Addr) (f : Entry → Entry) :
    (modEntry k f s).notices = s.notices := rfl
@[simp] theorem modEntry_out (k : Addr) (f : Entry → Entry) : (modEntry k f s).out = s.out := rfl
@[simp] theorem modEntry_noise (k : Addr) (f : Entry → Entry) : (modEntry k f s).noise = s.noise := rfl
@[simp] theorem modEntry_pending (k : Addr) (f : Entry → Entry) :
    (modEntry k f s).pending = s.pending := rfl

/-! ### insertEntry -/

@[simp] theorem insertEntry_powered (e : Entry) : (insertEntry e s).powered = s.powered := rfl
@[simp] theorem insertEntry_bypassOpen (e : Entry) : (insertEntry e s).bypassOpen = s.bypassOpen := rfl
@[simp] theorem insertEntry_joinedUnit (e : Entry) : (insertEntry e s).joinedUnit = s.joinedUnit := rfl
@[simp] theorem insertEntry_joinedOp (e : Entry) : (insertEntry e s).joinedOp = s.joinedOp := rfl
@[simp] theorem insertEntry_units (e : Entry) : (insertEntry e s).units = s.units := rfl
@[simp] theorem insertEntry_controllerUnit (e : Entry) :
    (insertEntry e s).controllerUnit = s.controllerUnit := rfl
@[simp] theorem insertEntry_holdLimit (e : Entry) : (insertEntry e s).holdLimit = s.holdLimit := rfl
@[simp] theorem insertEntry_current (e : Entry) : (insertEntry e s).current = s.current := rfl
@[simp] theorem insertEntry_items (e : Entry) : (insertEntry e s).items = s.items := rfl
@[simp] theorem insertEntry_grant (e : Entry) : (insertEntry e s).grant = s.grant := rfl
@[simp] theorem insertEntry_selected (e : Entry) : (insertEntry e s).selected = s.selected := rfl
@[simp] theorem insertEntry_slots (e : Entry) : (insertEntry e s).slots = s.slots := rfl
@[simp] theorem insertEntry_banks (e : Entry) : (insertEntry e s).banks = s.banks := rfl
@[simp] theorem insertEntry_jobs (e : Entry) : (insertEntry e s).jobs = s.jobs := rfl
@[simp] theorem insertEntry_nextJob (e : Entry) : (insertEntry e s).nextJob = s.nextJob := rfl
@[simp] theorem insertEntry_plans (e : Entry) : (insertEntry e s).plans = s.plans := rfl
@[simp] theorem insertEntry_q (e : Entry) : (insertEntry e s).q = s.q := rfl
@[simp] theorem insertEntry_t (e : Entry) : (insertEntry e s).t = s.t := rfl
@[simp] theorem insertEntry_store (e : Entry) : (insertEntry e s).store = s.store ++ [e] := rfl
@[simp] theorem insertEntry_storeFull (e : Entry) : (insertEntry e s).storeFull = false := rfl
@[simp] theorem insertEntry_records (e : Entry) : (insertEntry e s).records = s.records := rfl
@[simp] theorem insertEntry_gapPending (e : Entry) : (insertEntry e s).gapPending = s.gapPending := rfl
@[simp] theorem insertEntry_response (e : Entry) : (insertEntry e s).response = s.response := rfl
@[simp] theorem insertEntry_readMark (e : Entry) : (insertEntry e s).readMark = s.readMark := rfl
@[simp] theorem insertEntry_notices (e : Entry) : (insertEntry e s).notices = s.notices := rfl
@[simp] theorem insertEntry_out (e : Entry) : (insertEntry e s).out = s.out := rfl
@[simp] theorem insertEntry_noise (e : Entry) : (insertEntry e s).noise = s.noise := rfl
@[simp] theorem insertEntry_pending (e : Entry) : (insertEntry e s).pending = s.pending := rfl

/-! ### removeEntries -/

@[simp] theorem removeEntries_powered (p : Entry → Bool) : (removeEntries p s).powered = s.powered := rfl
@[simp] theorem removeEntries_bypassOpen (p : Entry → Bool) :
    (removeEntries p s).bypassOpen = s.bypassOpen := rfl
@[simp] theorem removeEntries_joinedUnit (p : Entry → Bool) :
    (removeEntries p s).joinedUnit = s.joinedUnit := rfl
@[simp] theorem removeEntries_joinedOp (p : Entry → Bool) : (removeEntries p s).joinedOp = s.joinedOp := rfl
@[simp] theorem removeEntries_units (p : Entry → Bool) : (removeEntries p s).units = s.units := rfl
@[simp] theorem removeEntries_controllerUnit (p : Entry → Bool) :
    (removeEntries p s).controllerUnit = s.controllerUnit := rfl
@[simp] theorem removeEntries_holdLimit (p : Entry → Bool) :
    (removeEntries p s).holdLimit = s.holdLimit := rfl
@[simp] theorem removeEntries_current (p : Entry → Bool) : (removeEntries p s).current = s.current := rfl
@[simp] theorem removeEntries_items (p : Entry → Bool) : (removeEntries p s).items = s.items := rfl
@[simp] theorem removeEntries_grant (p : Entry → Bool) : (removeEntries p s).grant = s.grant := rfl
@[simp] theorem removeEntries_selected (p : Entry → Bool) : (removeEntries p s).selected = s.selected := rfl
@[simp] theorem removeEntries_slots (p : Entry → Bool) : (removeEntries p s).slots = s.slots := rfl
@[simp] theorem removeEntries_banks (p : Entry → Bool) : (removeEntries p s).banks = s.banks := rfl
@[simp] theorem removeEntries_jobs (p : Entry → Bool) : (removeEntries p s).jobs = s.jobs := rfl
@[simp] theorem removeEntries_nextJob (p : Entry → Bool) : (removeEntries p s).nextJob = s.nextJob := rfl
@[simp] theorem removeEntries_plans (p : Entry → Bool) : (removeEntries p s).plans = s.plans := rfl
@[simp] theorem removeEntries_q (p : Entry → Bool) : (removeEntries p s).q = s.q := rfl
@[simp] theorem removeEntries_t (p : Entry → Bool) : (removeEntries p s).t = s.t := rfl
@[simp] theorem removeEntries_store (p : Entry → Bool) :
    (removeEntries p s).store = s.store.filter fun e => !p e := rfl
@[simp] theorem removeEntries_storeFull (p : Entry → Bool) :
    (removeEntries p s).storeFull = if s.store.any p then false else s.storeFull := rfl
@[simp] theorem removeEntries_records (p : Entry → Bool) : (removeEntries p s).records = s.records := rfl
@[simp] theorem removeEntries_gapPending (p : Entry → Bool) :
    (removeEntries p s).gapPending = s.gapPending := rfl
@[simp] theorem removeEntries_response (p : Entry → Bool) : (removeEntries p s).response = s.response := rfl
@[simp] theorem removeEntries_readMark (p : Entry → Bool) : (removeEntries p s).readMark = s.readMark := rfl
@[simp] theorem removeEntries_notices (p : Entry → Bool) : (removeEntries p s).notices = s.notices := rfl
@[simp] theorem removeEntries_out (p : Entry → Bool) : (removeEntries p s).out = s.out := rfl
@[simp] theorem removeEntries_noise (p : Entry → Bool) : (removeEntries p s).noise = s.noise := rfl
@[simp] theorem removeEntries_pending (p : Entry → Bool) : (removeEntries p s).pending = s.pending := rfl

/-! ### noteDriveFault -/

@[simp] theorem noteDriveFault_powered : (noteDriveFault s).powered = s.powered := rfl
@[simp] theorem noteDriveFault_bypassOpen : (noteDriveFault s).bypassOpen = s.bypassOpen := rfl
@[simp] theorem noteDriveFault_joinedUnit : (noteDriveFault s).joinedUnit = s.joinedUnit := rfl
@[simp] theorem noteDriveFault_joinedOp : (noteDriveFault s).joinedOp = s.joinedOp := rfl
@[simp] theorem noteDriveFault_units : (noteDriveFault s).units = s.units := rfl
@[simp] theorem noteDriveFault_controllerUnit : (noteDriveFault s).controllerUnit = s.controllerUnit := rfl
@[simp] theorem noteDriveFault_holdLimit : (noteDriveFault s).holdLimit = s.holdLimit := rfl
@[simp] theorem noteDriveFault_current : (noteDriveFault s).current = s.current := rfl
@[simp] theorem noteDriveFault_items : (noteDriveFault s).items = s.items := rfl
@[simp] theorem noteDriveFault_grant : (noteDriveFault s).grant = s.grant := rfl
@[simp] theorem noteDriveFault_selected : (noteDriveFault s).selected = s.selected := rfl
@[simp] theorem noteDriveFault_slots : (noteDriveFault s).slots = s.slots := rfl
@[simp] theorem noteDriveFault_banks : (noteDriveFault s).banks = s.banks := rfl
@[simp] theorem noteDriveFault_jobs : (noteDriveFault s).jobs = s.jobs := rfl
@[simp] theorem noteDriveFault_nextJob : (noteDriveFault s).nextJob = s.nextJob := rfl
@[simp] theorem noteDriveFault_plans : (noteDriveFault s).plans = s.plans := rfl
@[simp] theorem noteDriveFault_q : (noteDriveFault s).q = s.q := rfl
@[simp] theorem noteDriveFault_t : (noteDriveFault s).t = s.t := rfl
@[simp] theorem noteDriveFault_store : (noteDriveFault s).store = s.store := rfl
@[simp] theorem noteDriveFault_storeFull : (noteDriveFault s).storeFull = s.storeFull := rfl
@[simp] theorem noteDriveFault_records : (noteDriveFault s).records = s.records := rfl
@[simp] theorem noteDriveFault_gapPending : (noteDriveFault s).gapPending = s.gapPending := rfl
@[simp] theorem noteDriveFault_response : (noteDriveFault s).response = s.response := rfl
@[simp] theorem noteDriveFault_readMark : (noteDriveFault s).readMark = s.readMark := rfl
@[simp] theorem noteDriveFault_notices :
    (noteDriveFault s).notices = { s.notices with driveFault := true } := rfl
@[simp] theorem noteDriveFault_out : (noteDriveFault s).out = s.out := rfl
@[simp] theorem noteDriveFault_noise : (noteDriveFault s).noise = s.noise := rfl
@[simp] theorem noteDriveFault_pending : (noteDriveFault s).pending = s.pending := rfl

/-! ### noteBankRetired -/

@[simp] theorem noteBankRetired_powered : (noteBankRetired s).powered = s.powered := rfl
@[simp] theorem noteBankRetired_bypassOpen : (noteBankRetired s).bypassOpen = s.bypassOpen := rfl
@[simp] theorem noteBankRetired_joinedUnit : (noteBankRetired s).joinedUnit = s.joinedUnit := rfl
@[simp] theorem noteBankRetired_joinedOp : (noteBankRetired s).joinedOp = s.joinedOp := rfl
@[simp] theorem noteBankRetired_units : (noteBankRetired s).units = s.units := rfl
@[simp] theorem noteBankRetired_controllerUnit :
    (noteBankRetired s).controllerUnit = s.controllerUnit := rfl
@[simp] theorem noteBankRetired_holdLimit : (noteBankRetired s).holdLimit = s.holdLimit := rfl
@[simp] theorem noteBankRetired_current : (noteBankRetired s).current = s.current := rfl
@[simp] theorem noteBankRetired_items : (noteBankRetired s).items = s.items := rfl
@[simp] theorem noteBankRetired_grant : (noteBankRetired s).grant = s.grant := rfl
@[simp] theorem noteBankRetired_selected : (noteBankRetired s).selected = s.selected := rfl
@[simp] theorem noteBankRetired_slots : (noteBankRetired s).slots = s.slots := rfl
@[simp] theorem noteBankRetired_banks : (noteBankRetired s).banks = s.banks := rfl
@[simp] theorem noteBankRetired_jobs : (noteBankRetired s).jobs = s.jobs := rfl
@[simp] theorem noteBankRetired_nextJob : (noteBankRetired s).nextJob = s.nextJob := rfl
@[simp] theorem noteBankRetired_plans : (noteBankRetired s).plans = s.plans := rfl
@[simp] theorem noteBankRetired_q : (noteBankRetired s).q = s.q := rfl
@[simp] theorem noteBankRetired_t : (noteBankRetired s).t = s.t := rfl
@[simp] theorem noteBankRetired_store : (noteBankRetired s).store = s.store := rfl
@[simp] theorem noteBankRetired_storeFull : (noteBankRetired s).storeFull = s.storeFull := rfl
@[simp] theorem noteBankRetired_records : (noteBankRetired s).records = s.records := rfl
@[simp] theorem noteBankRetired_gapPending : (noteBankRetired s).gapPending = s.gapPending := rfl
@[simp] theorem noteBankRetired_response : (noteBankRetired s).response = s.response := rfl
@[simp] theorem noteBankRetired_readMark : (noteBankRetired s).readMark = s.readMark := rfl
@[simp] theorem noteBankRetired_notices :
    (noteBankRetired s).notices = { s.notices with bankRetired := true } := rfl
@[simp] theorem noteBankRetired_out : (noteBankRetired s).out = s.out := rfl
@[simp] theorem noteBankRetired_noise : (noteBankRetired s).noise = s.noise := rfl
@[simp] theorem noteBankRetired_pending : (noteBankRetired s).pending = s.pending := rfl

/-! ### noteJobEnded -/

@[simp] theorem noteJobEnded_powered : (noteJobEnded s).powered = s.powered := rfl
@[simp] theorem noteJobEnded_bypassOpen : (noteJobEnded s).bypassOpen = s.bypassOpen := rfl
@[simp] theorem noteJobEnded_joinedUnit : (noteJobEnded s).joinedUnit = s.joinedUnit := rfl
@[simp] theorem noteJobEnded_joinedOp : (noteJobEnded s).joinedOp = s.joinedOp := rfl
@[simp] theorem noteJobEnded_units : (noteJobEnded s).units = s.units := rfl
@[simp] theorem noteJobEnded_controllerUnit : (noteJobEnded s).controllerUnit = s.controllerUnit := rfl
@[simp] theorem noteJobEnded_holdLimit : (noteJobEnded s).holdLimit = s.holdLimit := rfl
@[simp] theorem noteJobEnded_current : (noteJobEnded s).current = s.current := rfl
@[simp] theorem noteJobEnded_items : (noteJobEnded s).items = s.items := rfl
@[simp] theorem noteJobEnded_grant : (noteJobEnded s).grant = s.grant := rfl
@[simp] theorem noteJobEnded_selected : (noteJobEnded s).selected = s.selected := rfl
@[simp] theorem noteJobEnded_slots : (noteJobEnded s).slots = s.slots := rfl
@[simp] theorem noteJobEnded_banks : (noteJobEnded s).banks = s.banks := rfl
@[simp] theorem noteJobEnded_jobs : (noteJobEnded s).jobs = s.jobs := rfl
@[simp] theorem noteJobEnded_nextJob : (noteJobEnded s).nextJob = s.nextJob := rfl
@[simp] theorem noteJobEnded_plans : (noteJobEnded s).plans = s.plans := rfl
@[simp] theorem noteJobEnded_q : (noteJobEnded s).q = s.q := rfl
@[simp] theorem noteJobEnded_t : (noteJobEnded s).t = s.t := rfl
@[simp] theorem noteJobEnded_store : (noteJobEnded s).store = s.store := rfl
@[simp] theorem noteJobEnded_storeFull : (noteJobEnded s).storeFull = s.storeFull := rfl
@[simp] theorem noteJobEnded_records : (noteJobEnded s).records = s.records := rfl
@[simp] theorem noteJobEnded_gapPending : (noteJobEnded s).gapPending = s.gapPending := rfl
@[simp] theorem noteJobEnded_response : (noteJobEnded s).response = s.response := rfl
@[simp] theorem noteJobEnded_readMark : (noteJobEnded s).readMark = s.readMark := rfl
@[simp] theorem noteJobEnded_notices : (noteJobEnded s).notices = { s.notices with jobEnded := true } := rfl
@[simp] theorem noteJobEnded_out : (noteJobEnded s).out = s.out := rfl
@[simp] theorem noteJobEnded_noise : (noteJobEnded s).noise = s.noise := rfl
@[simp] theorem noteJobEnded_pending : (noteJobEnded s).pending = s.pending := rfl

/-! ### leaveArbiter -/

@[simp] theorem leaveArbiter_powered (n : Nat) : (leaveArbiter n s).powered = s.powered := rfl
@[simp] theorem leaveArbiter_bypassOpen (n : Nat) : (leaveArbiter n s).bypassOpen = s.bypassOpen := rfl
@[simp] theorem leaveArbiter_joinedUnit (n : Nat) : (leaveArbiter n s).joinedUnit = s.joinedUnit := rfl
@[simp] theorem leaveArbiter_joinedOp (n : Nat) : (leaveArbiter n s).joinedOp = s.joinedOp := rfl
@[simp] theorem leaveArbiter_controllerUnit (n : Nat) :
    (leaveArbiter n s).controllerUnit = s.controllerUnit := rfl
@[simp] theorem leaveArbiter_holdLimit (n : Nat) : (leaveArbiter n s).holdLimit = s.holdLimit := rfl
@[simp] theorem leaveArbiter_current (n : Nat) : (leaveArbiter n s).current = s.current := rfl
@[simp] theorem leaveArbiter_items (n : Nat) : (leaveArbiter n s).items = s.items := rfl
@[simp] theorem leaveArbiter_grant (n : Nat) : (leaveArbiter n s).grant = s.grant := rfl
@[simp] theorem leaveArbiter_selected (n : Nat) : (leaveArbiter n s).selected = s.selected := rfl
@[simp] theorem leaveArbiter_slots (n : Nat) : (leaveArbiter n s).slots = s.slots := rfl
@[simp] theorem leaveArbiter_banks (n : Nat) : (leaveArbiter n s).banks = s.banks := rfl
@[simp] theorem leaveArbiter_jobs (n : Nat) : (leaveArbiter n s).jobs = s.jobs := rfl
@[simp] theorem leaveArbiter_nextJob (n : Nat) : (leaveArbiter n s).nextJob = s.nextJob := rfl
@[simp] theorem leaveArbiter_plans (n : Nat) : (leaveArbiter n s).plans = s.plans := rfl
@[simp] theorem leaveArbiter_q (n : Nat) : (leaveArbiter n s).q = s.q := rfl
@[simp] theorem leaveArbiter_t (n : Nat) : (leaveArbiter n s).t = s.t := rfl
@[simp] theorem leaveArbiter_store (n : Nat) : (leaveArbiter n s).store = s.store := rfl
@[simp] theorem leaveArbiter_storeFull (n : Nat) : (leaveArbiter n s).storeFull = s.storeFull := rfl
@[simp] theorem leaveArbiter_records (n : Nat) : (leaveArbiter n s).records = s.records := rfl
@[simp] theorem leaveArbiter_gapPending (n : Nat) : (leaveArbiter n s).gapPending = s.gapPending := rfl
@[simp] theorem leaveArbiter_response (n : Nat) : (leaveArbiter n s).response = s.response := rfl
@[simp] theorem leaveArbiter_readMark (n : Nat) : (leaveArbiter n s).readMark = s.readMark := rfl
@[simp] theorem leaveArbiter_notices (n : Nat) : (leaveArbiter n s).notices = s.notices := rfl
@[simp] theorem leaveArbiter_out (n : Nat) : (leaveArbiter n s).out = s.out := rfl
@[simp] theorem leaveArbiter_noise (n : Nat) : (leaveArbiter n s).noise = s.noise := rfl
@[simp] theorem leaveArbiter_pending (n : Nat) : (leaveArbiter n s).pending = s.pending := rfl

end Sys2Proof.Machine
end

