-- ==== Sys2Proof/Laws/Table.lean ====
section
/-! SUPPORT. Tables: reading an entry back, and leaving every other entry alone. -/

namespace Sys2Proof

variable {α : Type} {n : Nat}

theorem Table.ext_items {a b : Table α n} (h : a.items = b.items) : a = b := by
  cases a
  cases b
  simpa using h

@[simp] theorem Table.get_set_same (t : Table α n) (i : Fin n) (x : α) : (t.set i x).get i = x := by
  simp [Table.get, Table.set]

theorem Table.get_set_ne (t : Table α n) {i j : Fin n} (x : α) (h : j ≠ i) :
    (t.set i x).get j = t.get j := by
  simp only [Table.get, Table.set]
  exact List.getElem_set_ne (fun e => h (Fin.ext e.symm)) _

theorem Table.get_set (t : Table α n) (i j : Fin n) (x : α) :
    (t.set i x).get j = if j = i then x else t.get j := by
  split
  · subst_vars
    exact t.get_set_same _ x
  · exact t.get_set_ne x ‹_›

@[simp] theorem Table.set_set (t : Table α n) (i : Fin n) (x y : α) :
    (t.set i x).set i y = t.set i y := Table.ext_items (by simp [Table.set])

@[simp] theorem Table.get_fill (i : Fin n) (x : α) : (Table.fill n x).get i = x := by
  simp [Table.get, Table.fill]

@[simp] theorem Table.get_map (t : Table α n) (f : α → α) (i : Fin n) : (t.map f).get i = f (t.get i) := by
  simp [Table.get, Table.map]

@[simp] theorem Table.get_mapWithIndex (t : Table α n) (f : Nat → α → α) (i : Fin n) :
    (t.mapWithIndex f).get i = f i.val (t.get i) := by
  simp [Table.get, Table.mapWithIndex]

/-- A table is told by its entries. -/
theorem Table.ext_get {a b : Table α n} (h : ∀ i, a.get i = b.get i) : a = b :=
  Table.ext_items (List.ext_getElem (by rw [a.size, b.size]) fun k hk _ => h ⟨k, a.size ▸ hk⟩)

/-- An entry of a table is one of its items, and every item is an entry. -/
theorem Table.mem_items (t : Table α n) (x : α) : x ∈ t.items ↔ ∃ i, t.get i = x := by
  rw [List.mem_iff_getElem]
  constructor
  · rintro ⟨k, hk, rfl⟩
    exact ⟨⟨k, t.size ▸ hk⟩, rfl⟩
  · rintro ⟨i, rfl⟩
    exact ⟨i.val, t.size.symm ▸ i.isLt, rfl⟩

@[simp] theorem mem_indexes (i : Fin n) : i ∈ indexes n := by
  simp only [indexes, List.mem_filterMap, List.mem_range]
  exact ⟨i.val, i.isLt, by simp⟩

theorem saturate_le (n k : Nat) : saturate n k ≤ 4095 := Nat.min_le_left ..

end Sys2Proof
end

