-- ==== Sys2Proof/Laws/Ops.lean ====
section
/-! SUPPORT. What each shared operation can do: units, slots and jobs read back after an update, and the cases
of the operations that branch. -/

namespace Sys2Proof.Machine

variable (s : State)

/-! ### Units and slots -/

@[simp] theorem modUnit_unit_same (u : UnitNo) (f : UnitEntry → UnitEntry) :
    (modUnit u f s).unit u = f (s.unit u) := Table.get_set_same ..

theorem modUnit_unit_ne {u v : UnitNo} (f : UnitEntry → UnitEntry) (h : v ≠ u) :
    (modUnit u f s).unit v = s.unit v := Table.get_set_ne _ _ h

theorem modUnit_unit (u v : UnitNo) (f : UnitEntry → UnitEntry) :
    (modUnit u f s).unit v = if v = u then f (s.unit v) else s.unit v := by
  split
  · subst_vars
    exact modUnit_unit_same s _ f
  · exact modUnit_unit_ne s f ‹_›

@[simp] theorem modUnit_modUnit (u : UnitNo) (f g : UnitEntry → UnitEntry) :
    modUnit u g (modUnit u f s) = modUnit u (fun e => g (f e)) s := by
  simp [modUnit, State.unit]

@[simp] theorem modSlot_slot_same (i : SlotId) (f : Slot → Slot) :
    (modSlot i f s).slot i = f (s.slot i) := Table.get_set_same ..

theorem modSlot_slot_ne {i k : SlotId} (f : Slot → Slot) (h : k ≠ i) :
    (modSlot i f s).slot k = s.slot k := Table.get_set_ne _ _ h

/-! ### Jobs -/

theorem mem_jobList (j : Job) : j ∈ s.jobList ↔ ∃ e, s.jobs.get e = some j := by
  simp [State.jobList, List.mem_filterMap, Table.mem_items]

theorem modJob_jobList (n : Nat) (f : Job → Job) :
    (modJob n f s).jobList = s.jobList.map fun j => if j.number = n then f j else j := by
  simp only [State.jobList, modJob, Table.map, List.filterMap_map, List.map_filterMap]
  rfl

theorem dropJob_jobList (n : Nat) :
    (dropJob n s).jobList = s.jobList.filter fun j => j.number ≠ n := by
  simp only [State.jobList, dropJob, Table.map, List.filterMap_map]
  induction s.jobs.items with
  | nil => rfl
  | cons e l ih =>
    cases e with
    | none => simpa using ih
    | some j =>
      by_cases h : j.number = n <;> simp_all [Option.filter]

/-- A job dropped is in the table no more. -/
@[simp] theorem dropJob_job (n : Nat) : (dropJob n s).job n = none := by
  simp [State.job, dropJob_jobList]

theorem job_number {n : Nat} {j : Job} (h : s.job n = some j) : j.number = n := by
  simpa using List.find?_some h

theorem job_mem {n : Nat} {j : Job} (h : s.job n = some j) : j ∈ s.jobList := List.mem_of_find?_eq_some h

/-- An update that keeps the number of a job is seen in that job's record. -/
theorem modJob_job (n : Nat) (f : Job → Job) (hf : ∀ j, (f j).number = j.number) :
    (modJob n f s).job n = (s.job n).map f := by
  simp only [State.job, modJob_jobList]
  induction s.jobList with
  | nil => rfl
  | cons j l ih =>
    by_cases h : j.number = n
    · simp [h, hf]
    · simp [h, ih]

/-- An update of another job that keeps its number leaves a job's record alone. -/
theorem modJob_job_ne {n m : Nat} (f : Job → Job) (hf : ∀ j, (f j).number = j.number) (h : m ≠ n) :
    (modJob n f s).job m = s.job m := by
  simp only [State.job, modJob_jobList]
  induction s.jobList with
  | nil => rfl
  | cons j l ih =>
    have hk : (if j.number = n then f j else j).number = j.number := by
      split
      · exact hf j
      · rfl
    by_cases hm : j.number = m
    · simp [hm, h]
    · simp only [List.map_cons, List.find?_cons, hk, hm, decide_false]
      exact ih

/-! ### Operations that branch -/

/-- The drive face after a selection: unchanged with the unit selected already, otherwise one UNIT SELECT
more. -/
theorem selectDrive_eq (u : UnitNo) : selectDrive u s =
    { s with
      selected := some u
      out := s.out ++ if s.selected = some u then [] else [.driveSelect u] } := by
  unfold selectDrive
  split
  · simp [*]
    cases s
    simp_all
  · rfl

/-- A record handed to the queue is kept while there is room, and otherwise raises RECORDS_OVERFLOW and
leaves the gap-pending mark. -/
theorem appendRecord_cases (r : Record) :
    s.records.length < 128 ∧
      appendRecord r s = { s with records := s.records ++ [setGap s.gapPending r], gapPending := false } ∨
    128 ≤ s.records.length ∧
      appendRecord r s =
        { s with notices := { s.notices with recordsOverflow := true }, gapPending := true } := by
  unfold appendRecord
  split
  · exact .inl ⟨‹_›, rfl⟩
  · exact .inr ⟨Nat.le_of_not_lt ‹_›, rfl⟩

/-- A margin item asked for is there, and every other item is where it was. -/
theorem mem_addMarginItem (u : UnitNo) (i : Item) :
    i ∈ (addMarginItem u s).items ↔ i ∈ s.items ∨ i = .margin u := by
  unfold addMarginItem
  split
  · constructor
    · exact .inl
    · rintro (h | rfl)
      · exact h
      · exact List.contains_iff_mem.1 ‹_›
  · simp

/-- A margin item changes the items alone. -/
theorem addMarginItem_eq (u : UnitNo) :
    addMarginItem u s = { s with items := (addMarginItem u s).items } := by
  unfold addMarginItem
  split <;> rfl

/-- The lowest empty entry takes a job; a full table stays as it is. -/
theorem addJob_cases (j : Job) :
    s.emptyEntry = none ∧ addJob j s = s ∨
    ∃ e, s.emptyEntry = some e ∧ s.jobs.get e = none ∧
      addJob j s = { s with jobs := s.jobs.set e (some j) } := by
  unfold addJob
  split
  · exact .inl ⟨‹_›, rfl⟩
  · rename_i e h
    exact .inr ⟨e, h, by simpa using List.find?_some h, rfl⟩

/-- With the bypass open a command of the lines is what its function does between its beginning and its end. -/
theorem throughRelay_open (noise : List ReadoutNoise) (joined f : State → State) (h : s.bypassOpen = true) :
    throughRelay noise joined f s = endCommand (f (beginCommand noise s)) := by
  simp [throughRelay, h]

/-- With the bypass closed a command of the lines is what the joined lines carry. -/
theorem throughRelay_closed (noise : List ReadoutNoise) (joined f : State → State)
    (h : s.bypassOpen = false) :
    throughRelay noise joined f s = endCommand (joined (beginCommand [] s)) := by
  simp [throughRelay, h]

/-- With the bypass open a command is what its function does between its beginning and its end. -/
theorem whenOpen_open (noise : List ReadoutNoise) (f : State → State) (h : s.bypassOpen = true) :
    whenOpen noise f s = endCommand (f (beginCommand noise s)) := throughRelay_open s noise id f h

/-- With the bypass closed a command of the unit's own logic leaves nothing but an empty output. -/
theorem whenOpen_closed (noise : List ReadoutNoise) (f : State → State) (h : s.bypassOpen = false) :
    whenOpen noise f s = { s with out := [], noise := [] } := throughRelay_closed s noise id f h

/-- What the joined lines carry: nothing where they address no drive. -/
theorem toJoined_cases (f : UnitNo → State → State) :
    s.joinedUnit = none ∧ toJoined f s = s ∨ ∃ u, s.joinedUnit = some u ∧ toJoined f s = f u s := by
  unfold toJoined
  split
  · exact .inl ⟨‹_›, rfl⟩
  · exact .inr ⟨_, ‹_›, rfl⟩

/-! ### Order -/

theorem insertBy_perm {α : Type} (key : α → Nat) (x : α) (l : List α) :
    (insertBy key x l).Perm (x :: l) := by
  induction l with
  | nil => exact .refl _
  | cons y l ih =>
    unfold insertBy
    split
    · exact .refl _
    · exact (ih.cons y).trans (.swap x y l)

theorem sortBy_fold_perm {α : Type} (key : α → Nat) (l acc : List α) :
    (l.foldl (fun acc x => insertBy key x acc) acc).Perm (acc ++ l) := by
  induction l generalizing acc with
  | nil => simp
  | cons x l ih =>
    refine (ih _).trans (((insertBy_perm key x acc).append_right l).trans ?_)
    exact (List.perm_middle (a := x) (l₁ := acc) (l₂ := l)).symm

/-- Ordering a list by a key keeps its items. -/
theorem sortBy_perm {α : Type} (key : α → Nat) (l : List α) : (sortBy key l).Perm l := by
  simpa [sortBy] using sortBy_fold_perm key l []

theorem insertBy_sorted {α : Type} (key : α → Nat) (x : α) (l : List α)
    (h : l.Pairwise fun a b => key a ≤ key b) :
    (insertBy key x l).Pairwise fun a b => key a ≤ key b := by
  induction l with
  | nil => simp [insertBy]
  | cons y l ih =>
    obtain ⟨hy, hl⟩ := List.pairwise_cons.1 h
    unfold insertBy
    split
    · rename_i hx
      refine List.pairwise_cons.2 ⟨fun z hz => ?_, h⟩
      rcases List.mem_cons.1 hz with rfl | hz
      · exact Nat.le_of_lt hx
      · exact Nat.le_trans (Nat.le_of_lt hx) (hy z hz)
    · rename_i hx
      refine List.pairwise_cons.2 ⟨fun z hz => ?_, ih hl⟩
      rcases List.mem_cons.1 ((insertBy_perm key x l).mem_iff.1 hz) with rfl | hz
      · exact Nat.le_of_not_lt hx
      · exact hy z hz

/-- A list ordered by a key has its keys rising. -/
theorem sortBy_sorted {α : Type} (key : α → Nat) (l : List α) :
    (sortBy key l).Pairwise fun a b => key a ≤ key b := by
  suffices h : ∀ (l acc : List α), (acc.Pairwise fun a b => key a ≤ key b) →
      (l.foldl (fun acc x => insertBy key x acc) acc).Pairwise fun a b => key a ≤ key b from
    h l [] .nil
  intro l
  induction l with
  | nil => exact fun _ h => h
  | cons x l ih => exact fun acc h => ih _ (insertBy_sorted key x acc h)

end Sys2Proof.Machine
end

