-- ==== Sys2Proof/Laws/Store.lean ====
section
/-! SUPPORT. What the operations over capture memory and the store can do. -/

namespace Sys2Proof.Machine

variable (s : State)

/-! ### Stored words -/

theorem parityGood_storeWord_ofNat :
    ∀ i < 64, ∀ k < 64, parityGood (storeWord (BitVec.ofNat 12 (64 * i + k))) = true := by decide +kernel

/-- A word stored with parity reads back with good parity. -/
theorem parityGood_storeWord (w : Word) : parityGood (storeWord w) = true := by
  have h := parityGood_storeWord_ofNat (w.toNat / 64) (by omega) (w.toNat % 64) (by omega)
  rwa [Nat.div_add_mod, BitVec.ofNat_toNat, BitVec.setWidth_eq] at h

/-- The word of a stored word is the word stored. -/
@[simp] theorem wordOf_storeWord (w : Word) : wordOf (storeWord w) = w := by
  unfold storeWord wordOf
  split
  · simp
  · rw [BitVec.setWidth_or]
    simp

/-- Healthy cells give back what was stored. -/
@[simp] theorem readStored_healthy (k : Nat) (w : Word) : readStored [] k (storeWord w) = some w := by
  simp [readStored, disturb, parityGood_storeWord]

/-! ### Readouts and banks -/

/-- A parity failure counts once; the sixteenth retires the bank; more are not counted (R68, R69). -/
theorem countParity_cases (b : Fin 2) :
    16 ≤ (s.banks.get b).parity ∧ countParity b s = s ∨
    ∃ t, t = { s with banks := s.banks.set b { s.banks.get b with parity := (s.banks.get b).parity + 1 } } ∧
      ((s.banks.get b).parity + 1 < 16 ∧ countParity b s = t ∨
        (s.banks.get b).parity + 1 = 16 ∧ countParity b s = retireBank b t) := by
  have e : countParity b s = if 16 ≤ (s.banks.get b).parity then s else
      if (s.banks.get b).parity + 1 = 16 then retireBank b { s with
        banks := s.banks.set b { s.banks.get b with parity := (s.banks.get b).parity + 1 } }
      else { s with
        banks := s.banks.set b { s.banks.get b with parity := (s.banks.get b).parity + 1 } } := rfl
  rw [e]
  split
  · exact .inl ⟨‹_›, rfl⟩
  · refine .inr ⟨_, rfl, ?_⟩
    split
    · exact .inr ⟨‹_›, rfl⟩
    · exact .inl ⟨by omega, rfl⟩

/-- A readout uses up one readout's noise, and counts against the slot's bank when a word fails. -/
theorem readSlot_cases (i : SlotId) (start len : Nat) :
    (readSlot i start len s).1.all Option.isSome = true ∧
      (readSlot i start len s).2 = { s with noise := s.noise.tail } ∨
    (readSlot i start len s).1.all Option.isSome = false ∧
      (readSlot i start len s).2 = countParity (bankOf i) { s with noise := s.noise.tail } := by
  have e : (readSlot i start len s).2 = if (readSlot i start len s).1.all Option.isSome then
      { s with noise := s.noise.tail } else countParity (bankOf i) { s with noise := s.noise.tail } := rfl
  rw [e]
  cases (readSlot i start len s).1.all Option.isSome
  · exact .inr ⟨rfl, rfl⟩
  · exact .inl ⟨rfl, rfl⟩

/-! ### Slots -/

/-- The relay has a slot when one is available and FREE, and then it is the lowest FREE one (R63). -/
theorem takeRelaySlot_cases :
    takeRelaySlot s = (none, s) ∨
    ∃ i, 0 < s.available ∧ s.lowestFree (fun _ => true) = some i ∧
      takeRelaySlot s = (some i, fillFor .relay i s) := by
  unfold takeRelaySlot
  split
  · exact .inl rfl
  · rename_i h
    split
    · exact .inl rfl
    · rename_i i hi
      exact .inr ⟨i, Nat.pos_of_ne_zero h, hi, rfl⟩

/-- A slot released goes back to FREE or RETIRED: from the relay with reservations restored, from a job with
its reservation kept but for a retired bank with nothing available (R67). -/
theorem releaseSlot_cases (i : SlotId) :
    (s.slot i).owner = none ∧ releaseSlot i s = s ∨
    (s.slot i).owner = some .relay ∧ releaseSlot i s = restoreReservations (freeSlot i s) ∨
    ∃ n, (s.slot i).owner = some (.job n) ∧
      (releaseSlot i s = freeSlot i s ∨
        s.bankRetired (bankOf i) = true ∧ s.available = 0 ∧
        releaseSlot i s =
          freeSlot i (modJob n (fun j => { j with reservation := j.reservation - 1 }) s)) := by
  unfold releaseSlot
  split
  · exact .inl ⟨‹_›, rfl⟩
  · exact .inr (.inl ⟨‹_›, rfl⟩)
  · rename_i n h
    refine .inr (.inr ⟨n, h, ?_⟩)
    split
    · rename_i hb
      simp only [Bool.and_eq_true, decide_eq_true_eq] at hb
      exact .inr ⟨hb.1, hb.2, rfl⟩
    · exact .inl rfl

/-- A property that each release keeps is kept by the release of a list. -/
theorem releaseSlots_induct (P : State → Prop) (h : ∀ i t, P t → P (releaseSlot i t))
    (l : List SlotId) (hs : P s) : P (releaseSlots l s) := by
  induction l generalizing s with
  | nil => exact hs
  | cons i l ih => exact ih _ (h i s hs)

/-! ### The store -/

theorem removeEntry_store (k : Addr) : (removeEntry k s).store = s.store.filter fun e => e.key ≠ k := by
  simp [removeEntry]

/-- What an offer can do (R143 to R146): a recovery declined over a redirected entry; the entry of the key
replaced at the newest end; a new entry on a store with room; the chosen entry evicted; the store full. -/
theorem offer_cases (k : Addr) (o : StoreOrigin) (data : List Word) (fresh : Bool → Entry)
    (hf : fresh = newEntry k o (s.unit k.unit).generation data) :
    (∃ old, s.entry k = some old ∧ o ≠ .redirectedWrite ∧ old.origin = .redirectedWrite ∧
      offer k o data s = (.declined, s)) ∨
    (∃ old, s.entry k = some old ∧ (o = .redirectedWrite ∨ old.origin ≠ .redirectedWrite) ∧
      offer k o data s = (.inserted, insertEntry (fresh old.pinned) (removeEntry k s))) ∨
    s.entry k = none ∧
      (s.store.length < 64 ∧ offer k o data s = (.inserted, insertEntry (fresh false) s) ∨
      64 ≤ s.store.length ∧
        ((∃ e, s.evictionChoice = some e ∧
          offer k o data s = (.inserted, insertEntry (fresh false) (removeEntry e.key s))) ∨
        s.evictionChoice = none ∧ offer k o data s = (.full, { s with storeFull := true }))) := by
  subst hf
  unfold offer
  split
  · rename_i old h
    split
    · rename_i hd
      exact .inl ⟨old, h, hd.1, hd.2, rfl⟩
    · rename_i hd
      exact .inr (.inl ⟨old, h, by by_cases e : o = .redirectedWrite <;> simp_all, rfl⟩)
  · rename_i h
    refine .inr (.inr ⟨h, ?_⟩)
    by_cases hl : s.store.length < Config.storeCapacity
    · exact .inl ⟨hl, if_pos hl⟩
    · refine .inr ⟨Nat.le_of_not_lt hl, ?_⟩
      rw [if_neg hl]
      split
      · rename_i e he
        exact .inl ⟨e, he, rfl⟩
      · rename_i he
        exact .inr ⟨he, rfl⟩

/-- The entry evicted is no redirected write. -/
theorem evictionChoice_origin {e : Entry} (h : s.evictionChoice = some e) :
    e ∈ s.store ∧ e.origin ≠ .redirectedWrite := by
  unfold State.evictionChoice at h
  split at h
  · rename_i x hx
    cases h
    have := List.find?_some hx
    exact ⟨List.mem_of_find?_eq_some hx, by simp_all⟩
  · have := List.find?_some h
    exact ⟨List.mem_of_find?_eq_some h, by simp_all⟩

/-- The store answers a lookup with the key's entry, and only while it is current (R141). -/
theorem lookup_some {k : Addr} {e : Entry} (h : s.lookup k = some e) :
    e ∈ s.store ∧ e.key = k ∧ e.generation = (s.unit k.unit).generation := by
  unfold State.lookup at h
  split at h
  · cases h
  · rename_i x hx
    split at h
    · rename_i hc
      cases h
      have hk : e.key = k := by simpa using List.find?_some hx
      refine ⟨List.mem_of_find?_eq_some hx, hk, ?_⟩
      rw [← hk]
      simpa [State.entryCurrent] using hc
    · cases h

end Sys2Proof.Machine
end

