-- ==== Sys2Proof/Laws/Work.lean ====
section
/-! SUPPORT. What the relay's and the jobs' shared operations can do, and the inductions over jobs. -/

namespace Sys2Proof.Machine

variable (s : State)

/-! ### Inductions -/

theorem foldl_induct {α β : Type} (P : β → Prop) (f : β → α → β) (h : ∀ b a, P b → P (f b a))
    (l : List α) (b : β) (hb : P b) : P (l.foldl f b) := by
  induction l generalizing b with
  | nil => exact hb
  | cons a l ih => exact ih _ (h b a hb)

/-- What every job's finding where it stands keeps, all of them together keep. -/
theorem settleJobs_induct (P : State → Prop) (h : ∀ n t, P t → P (settleJob n t)) (hs : P s) :
    P (settleJobs s) := foldl_induct P _ (fun t n => h n t) _ _ hs

/-- What every job's ending keeps, jobs ended together keep. -/
theorem endJobs_induct (P : State → Prop) (p : Job → Bool) (e : Ending)
    (h : ∀ n t, P t → P (endJob n e t)) (hs : P s) : P (endJobs p e s) :=
  foldl_induct P _ (fun t n => h n t) _ _ hs

/-- What telling one job keeps, telling a unit's jobs keeps. -/
theorem tellMoved_induct (P : State → Prop) (u : UnitNo)
    (h : ∀ n t, P t → P (giveReposition n t)) (hs : P s) : P (tellMoved u s) :=
  foldl_induct P _ (fun t n => h n t) _ _ hs

theorem restoreReservations_induct (P : State → Prop) (h : ∀ t j, P t → P (restoreJob t j)) (hs : P s) :
    P (restoreReservations s) := foldl_induct P _ h _ _ hs

theorem trimClaims_induct (P : State → Prop) (h : ∀ t j, P t → P (trimClaim t j)) (hs : P s) :
    P (trimClaims s) := foldl_induct P _ h _ _ hs

theorem takeJobSlots_induct (P : State → Prop) (n k : Nat) (h : ∀ t, P t → P (takeJobSlot n t))
    (hs : P s) : P (takeJobSlots n k s) := by
  induction k generalizing s with
  | zero => exact hs
  | succ k ih => exact ih _ (h s hs)

/-- An event whose readouts retire no bank leaves just what it does (R70). -/
theorem settleIfRetired_cases (f : State → State) :
    (f s).banks = s.banks ∧ settleIfRetired f s = f s ∨
    (f s).banks ≠ s.banks ∧ settleIfRetired f s = settleJobs (f s) := by
  unfold settleIfRetired
  by_cases h : (f s).banks = s.banks
  · exact .inl ⟨h, if_pos h⟩
  · exact .inr ⟨h, if_neg h⟩

/-! ### The relay -/

/-- With nothing current there is nothing to abandon (R19). -/
theorem abandonCurrent_none (h : s.current = none) : abandonCurrent s = s := by
  simp [abandonCurrent, h]

theorem abandonCurrent_some (op : ControllerOp) (h : s.current = some op) :
    abandonCurrent s = settleJobs (abandonOperation s) := by
  simp [abandonCurrent, h]

/-- A release of the foreground changes at most the foreground job's flag and pin (R81). -/
theorem releaseForeground_cases :
    s.foregroundJob = none ∧ releaseForeground s = s ∨
    ∃ j, s.foregroundJob = some j ∧
      releaseForeground s = modJob j.number (fun j => { j with foreground := false, pin := none }) s := by
  unfold releaseForeground
  split
  · exact .inl ⟨‹_›, rfl⟩
  · rename_i j h
    exact .inr ⟨j, h, rfl⟩

/-- The end of a hold: none to end; the held revolutions given to the foreground sector job; or the hold gone
and no more (R33). -/
theorem endHold_cases (u : UnitNo) (t : State) (ht : t = modUnit u (fun e => { e with hold := none }) s) :
    (s.unit u).hold = none ∧ endHold u s = s ∨
    (∃ h j, (s.unit u).hold = some h ∧ s.foregroundJob = some j ∧ j.kind = .sector ∧
      endHold u s = modJob j.number (fun j => { j with heldRevs := saturate j.heldRevs h.revs }) t) ∨
    (∃ h, (s.unit u).hold = some h ∧ (∀ j, s.foregroundJob = some j → j.kind ≠ .sector) ∧
      endHold u s = t) := by
  subst ht
  have hf : (modUnit u (fun e => { e with hold := none }) s).foregroundJob = s.foregroundJob := rfl
  unfold endHold
  split
  · exact .inl ⟨‹_›, rfl⟩
  · rename_i h hh
    simp only [hf]
    split
    · rename_i j hj
      split
      · rename_i hk
        exact .inr (.inl ⟨h, j, hh, hj, hk, rfl⟩)
      · rename_i hk
        exact .inr (.inr ⟨h, hh, fun x hx => Option.some.inj (hj.symm.trans hx) ▸ hk, rfl⟩)
    · rename_i hj
      exact .inr (.inr ⟨h, hh, fun x hx => absurd (hj.symm.trans hx) (by simp), rfl⟩)

/-- An answer: nothing without a current operation; otherwise the answer goes out, the hold and the foreground
end, and the operation is over. -/
theorem answerCurrent_cases (a : Answer) :
    s.current = none ∧ answerCurrent a s = s ∨
    ∃ op, s.current = some op ∧ answerCurrent a s =
      clearOperation (releaseForeground (endHold op.unit (emit (.answer op.unit a) s))) := by
  unfold answerCurrent
  split
  · exact .inl ⟨‹_›, rfl⟩
  · rename_i op h
    exact .inr ⟨op, h, rfl⟩

/-! ### Jobs -/

/-- The end of a job: nothing where no job has the number; otherwise the steps of posting, and a read taken
up again where the ending asks for it (R87). -/
theorem endJob_cases (n : Nat) (e : Ending) :
    s.job n = none ∧ endJob n e s = s ∨
    ∃ j held t gone, s.job n = some j ∧ settleHeld j e (giveUpWork n s) = (held, t) ∧
      gone = restoreReservations (dropJob n (releaseJobSlots n
        (noteJobEnded (postResults ((t.job n).getD j) e t)))) ∧
      endJob n e s = if held then retakeRead gone else gone := by
  unfold endJob
  split
  · exact .inl ⟨‹_›, rfl⟩
  · rename_i j h
    exact .inr ⟨j, _, _, _, h, rfl, rfl, rfl⟩

/-- A job that is not foreground ends with the controller untouched. -/
theorem settleHeld_background (j : Job) (e : Ending) (h : j.foreground = false) :
    settleHeld j e s = (false, s) := by
  simp [settleHeld, h]

/-- A new job takes the number drawn, and the counter goes on after it (R73). -/
theorem enterJob_eq (j : Job) : enterJob j s =
    { addJob { j with number := s.drawNumber } s with nextJob := s.drawNumber % 255 + 1 } := rfl

/-- A job finds where it stands (R77): it stays, goes to AWAITING, goes back, or prepares its read. -/
theorem settleJob_cases (n : Nat) :
    settleJob n s = s ∨
    ∃ j, s.job n = some j ∧
      ((j.state = .queued ∨ j.state = .positioning) ∧ settleJob n s = enterAwaiting n s ∨
      j.state = .awaiting ∧
        (settleJob n s = giveReposition n s ∨ settleJob n s = sendBack n false s ∨
          settleJob n s = prepareRead n s)) := by
  unfold settleJob
  split
  · exact .inl rfl
  · rename_i j h
    cases hs : j.state <;> simp only
    · by_cases c : (s.ownMotion j || (s.nextCommand j).isSome) = true
      · exact .inl (if_pos c)
      · exact .inr ⟨j, h, .inl ⟨.inl hs, if_neg c⟩⟩
    · by_cases c : (s.ownMotion j || (s.nextCommand j).isSome) = true
      · exact .inl (if_pos c)
      · exact .inr ⟨j, h, .inl ⟨.inr hs, if_neg c⟩⟩
    · refine .inr ⟨j, h, .inr ⟨hs, ?_⟩⟩
      split
      · exact .inl rfl
      · split
        · exact .inr (.inl rfl)
        · exact .inr (.inr rfl)
    · exact .inl trivial
    · exact .inl trivial

/-! ### Requests -/

/-- A request command with the bypass open: the request carried out on the state with the current operation
abandoned, its response in place, the write answered (R168). -/
theorem requestWrite_eq (code tag : Word) (f : State → Reply × State) (a t : State) (r : Reply)
    (ha : abandonCurrent s = a) (hf : f a = (r, t)) :
    requestWrite code tag f s =
      emit (.answer a.controllerUnit .writeDone) (replaceResponse code tag r t) := by
  simp [requestWrite, ha, hf]

/-- A clamped field lies in its range (R169). -/
theorem clamped_mem {lo hi : Nat} (h : lo ≤ hi) (w : Word) :
    lo ≤ clamped lo hi w ∧ clamped lo hi w ≤ hi := by
  unfold clamped
  omega

/-- A ranged field is the word's value, in its range (R169). -/
theorem ranged_some {lo hi n : Nat} {w : Word} :
    ranged lo hi w = some n ↔ lo ≤ n ∧ n ≤ hi ∧ w.toNat = n := by
  unfold ranged
  split <;> simp <;> omega

/-- A unit or plan number is 0 to 3 (R169). -/
theorem quarterField_some {w : Word} {u : Fin 4} : quarterField w = some u ↔ w.toNat = u.val := by
  unfold quarterField
  split
  · simp [Fin.ext_iff]
  · simp
    omega

/-! ### The end of a stream (R12, R65) -/

/-- Closing the slot of a kept stream changes that slot alone, which then holds the capture. -/
theorem closeSlot_kept (i : SlotId) (a : Addr) (d : Delivery) (f : Finding) (words : List Word)
    (hd : deliveredWords d = some words) (hf : keptOutcome f.outcome = true) :
    closeSlot i a d f s = modSlot i (fun x => x.captured a d f) s := by
  simp [closeSlot, hd, hf, Slot.captured, modSlot, State.slot]

end Sys2Proof.Machine
end

