-- ==== Sys2Proof/Tests/Slice0.lean ====
section
/-! SUPPORT. Small tests: the well-formedness checks, the manual's worked figures, one step of each command,
and for every statement that has hypotheses a state and operands that meet them. -/

namespace Sys2Proof.Tests

open Sys2Proof.Machine

-- One test after another: each test's thread would keep its own large stack.
set_option Elab.async false

/-! ### Well-formedness: each check refuses an ill-formed command -/

theorem test_wf_seek : (Instr.seek 1024).wellFormed = false ∧ (Instr.seek 1023).wellFormed = true := by
  decide
theorem test_wf_head : (Instr.readSector 128 0 []).wellFormed = false ∧
    (Instr.formatTrack 128 []).wellFormed = false := by decide
theorem test_wf_sector : (Instr.readSector 0 32 []).wellFormed = false ∧
    (Instr.readSector 127 31 []).wellFormed = true := by decide
theorem test_wf_noise : (Instr.grant [[(260, 1)]]).wellFormed = false ∧
    (Instr.grant [[(259, 1)]]).wellFormed = true := by decide
theorem test_wf_write_data : (Instr.writeSector 0 0 (List.replicate 257 0) none).wellFormed = false := by
  decide +kernel
theorem test_wf_write_check : (Instr.writeSector 0 0 [] (some 0)).wellFormed = false ∧
    (Instr.writeSector 0 0 (List.replicate 256 0) (some 0)).wellFormed = true := by decide +kernel
theorem test_wf_format : (Instr.formatTrack 0 (List.replicate 97 0)).wellFormed = false := by decide +kernel
theorem test_wf_arrived : (Instr.driveFault 0 (List.replicate 260 0)).wellFormed = false ∧
    (Instr.readyFall 0 (List.replicate 260 0)).wellFormed = false := by decide +kernel
theorem test_wf_stream : (Instr.streamChecked (.complete []) []).wellFormed = false ∧
    (Instr.streamChecked (.clockLost 260 (List.replicate 260 0)) []).wellFormed = false := by
  decide +kernel
theorem test_wf_job : (Instr.mergeVerdict 0 0 []).wellFormed = false ∧
    (Instr.mergeVerdict 256 0 []).wellFormed = false ∧
    (Instr.mergeVerdict 1 24 []).wellFormed = false := by decide
theorem test_wf_plan : (Instr.loadPlan 0 0 0 (List.replicate 51 ⟨0, 0, 0, 0, 0⟩)).wellFormed = false := by
  decide
theorem test_wf_refused : (Instr.requestRefused [] 0).wellFormed = false := by decide

/-! ### No word spells a command -/

theorem test_decode_none : decodeTableWord 0 0 = none ∧ decodeTableWord 12 4095 = none := by decide
theorem test_fetch_unchanged : (State.reset.withFetchWord 8 1).pending = [] := by decide

/-! ### Small states -/

/-- A unit in service at cylinder 202, its geometry present. -/
def unitUp : UnitEntry :=
  { UnitEntry.reset with
    controllerCyl := some 202, driveCyl := some 202, strobe := some .normal, offset := some .centre,
    ready := true, readyLine := true, policy := .pass,
    geometry := { Geometry.reset with present := true } }

def cutThroughUnit : UnitEntry :=
  { unitUp with geometry := { unitUp.geometry with mode := .cutThrough } }

/-- The bypass open and unit 0 as given. -/
def up (e : UnitEntry) : State :=
  { State.reset with bypassOpen := true, units := (Table.fill 4 UnitEntry.reset).set 0 e }

/-- The controller unit at the maintenance cylinder. -/
def upMaint : State := up { unitUp with controllerCyl := some 1023 }

def address : Addr := ⟨0, 202, 9, 15⟩

/-- The bypass closed, a read of the controller in progress on the lines of unit 0. -/
def joined : State := { State.reset with joinedUnit := some 0, joinedOp := some (0, .readSector 9 15) }

/-- 256 data words: the first given, the rest 0000. -/
def dataWith (w : Word) : List Word := w :: List.replicate 255 0

def entryOf (k : Addr) (o : StoreOrigin) : Entry := newEntry k o 0 (dataWith 5) false

/-- A sector job on `address`, its list as given. -/
def sectorJob (n : Nat) (list : List SlotId) : Job :=
  { freshJob n .sector address .request 0 8 with list := list }

/-- A track job of two revolutions on the track of `address`. -/
def trackJob (n : Nat) : Job :=
  { freshJob n .track ⟨0, 202, 9, 0⟩ .request 0 48 with
    revsRequested := 2, rows := List.replicate 24 SectorRow.empty }

def withJobs (l : List Job) (s : State) : State := { s with jobs := Table.ofList 8 none (l.map some) }

/-- The stream of `address` with these data words and this checkword, complete. -/
def streamOf (data : List Word) (check : Word) : List Word :=
  ([202, headSectorWord 9 15, wordSum [202, headSectorWord 9 15]] ++ data) ++ [check]

/-- A READ SECTOR of `address` on the cable for a holder, into a slot. -/
def sectorGrantOf (holder : Holder) (slot : SlotId) : Grant :=
  { holder := holder, op := .readSector 9 15, unit := 0, cyl := 202, slots := [slot], nextMark := 0,
    abandoned := false }

/-- The controller's pass read of `address` on the cable, in slot 0, its unit held or not. -/
def reading (hold : Option Hold) : State :=
  { up { unitUp with hold := hold } with
    grant := some (sectorGrantOf (.relay .pass) 0)
    current := some ⟨0, 202, 9, 15, .read .pass, some 0, true⟩
    slots := (Table.fill 160 Slot.free).set 0 { Slot.free with state := .filling, owner := some .relay } }

def waitHold : Hold := ⟨.wait, 5, 5, 202, 9, 15⟩
def failureHold : Hold := ⟨.failure, 5, 5, 202, 9, 15⟩

/-- The controller waits for the cable with an operation on `address`. -/
def waitingFor (k : OpKind) : State :=
  { up { unitUp with hold := some ⟨.wait, 0, 0, 202, 9, 15⟩ } with
    items := [.operation 0], current := some ⟨0, 202, 9, 15, k, none, false⟩ }

def seeking : Motion := ⟨.controller, 202, false, false, false, false⟩

/-! ### The manual's figures -/

/-- R3: total 4096 leaves 1, total 4095 leaves 0. -/
theorem test_sum_wraps : wordSum [0o7777, 1] = 1 ∧ wordSum [0o7776, 1] = 0 := by decide
/-- R57: a stored word has an odd number of ones. -/
theorem test_parity : storeWord 0 = 4096#13 ∧ storeWord 1 = 1#13 ∧ storeWord 3 = 4099#13 := by decide
/-- R93, 6.2: the default plan has 8 steps of 10 attempts in all. -/
theorem test_default_plan : defaultPlan.length = 8 ∧ (defaultPlan.map PlanStep.attempts).sum = 10 := by
  decide
/-- Worked classification of 1.3: stream C, its clock lost at word 200, is a DROPOUT from 197 with segment
sums 0 to 11; stream D names sector 14, and as mark 15 of a READ TRACK it is a slip. -/
theorem test_worked_streams :
    (judge 202 9 15 (.clockLost 200 (streamOf (dataWith 5) 5))).dropout = some 197 ∧
    ((judge 202 9 15 (.clockLost 200 (streamOf (dataWith 5) 5))).sums.map Option.isSome) =
      List.replicate 12 true ++ List.replicate 4 false ∧
    (judge 202 9 15 (.complete ([0o312, 0o456, 0o770] ++ dataWith 5 ++ [5]))).outcome = .wrongHeader ∧
    (judgeTrack 202 9 15 16 (.complete ([0o312, 0o456, 0o770] ++ dataWith 5 ++ [5]))).sector = 14 ∧
    (judgeTrack 202 9 15 16 (.complete ([0o312, 0o456, 0o770] ++ dataWith 5 ++ [5]))).outcome = .clean := by
  decide +kernel
/-- R61: 7 slots of room grant a sector job 7, and 2 refuse it; track sizes go by whole revolutions. -/
theorem test_grant_size : grantSize 8 3 1 7 = some 7 ∧ grantSize 8 3 1 2 = none ∧
    grantSize 96 48 24 95 = some 72 ∧ grantSize 96 48 24 47 = none := by decide
/-- R109, R110: a tally of Q that is strictly the largest decides; a tie does not. -/
theorem test_decided : conditionOf 5 [(0o17, 5), (0o27, 3)] = .decided 0o17 ∧
    conditionOf 5 [(0o17, 5), (0o27, 5)] = .undecided [0o17, 0o27] ∧ conditionOf 5 [] = .void := by decide
/-- 7.4's table: the decided sum 5640, C 3021, and the words that position 118 shows. -/
theorem test_fill_table :
    (fillVerdict 0o5640 0o3021 [] [(118, .void)]).1 = .byFill ∧ fillValue 0o5640 0o3021 = 0o5160 ∧
    (fillVerdict 0o5640 0o3021 [] [(118, .undecided [0o5170, 0o5160])]).1 = .byFill ∧
    (fillVerdict 0o5640 0o3021 [] [(118, .undecided [0o5170, 0o5150])]).1 = .conflict ∧
    (fillVerdict 0o5640 0o5640 [] [(118, .void)]).1 = .ambiguous ∧
    (fillVerdict 0o5640 0o5640 [] [(118, .undecided [0o7777, 0o1234])]).1 = .byFill ∧
    (fillVerdict 0o5640 0o5640 [] [(118, .undecided [0, 0o7777])]).1 = .ambiguous := by decide
/-- R47: a track job comes before a request, and a request before a failure; then unit, then number. -/
theorem test_job_key : jobKey (trackJob 9) < jobKey (sectorJob 2 []) ∧
    jobKey (sectorJob 2 []) < jobKey { sectorJob 1 [] with origin := .readFailure } := by decide

/-! ### One step of a command -/

/-- The state after a command. -/
def after (c : Instr) (s : State) : State :=
  match exec c s with
  | .next t => t
  | _ => s

/-- R19: UNIT SELECT is answered by the unit's own logic. -/
theorem test_unit_select : (after (.unitSelect 3) (up unitUp)).out = [.selected 3] := by decide
/-- R23: a seek to cylinder 1023 ends at once; another leaves an item. -/
theorem test_seek : (after (.seek 1023) (up unitUp)).out = [.seekEnd 0] ∧
    (after (.seek 5) (up unitUp)).items = [.seek 0 (.to 5) false] := by decide
theorem test_return_to_zero : (after .returnToZero (up unitUp)).items = [.seek 0 .zero false] := by decide
/-- R18: READY up at the opening of the bypass leaves a margin item. -/
theorem test_bypass_open : (after .bypassOpen { up unitUp with bypassOpen := false }).items = [.margin 0] := by
  decide
/-- R28: the first margin to go is SHIFT STROBE NORMAL, after a UNIT SELECT of the unit. -/
theorem test_grant_margin : (after (.grant []) { up UnitEntry.reset with items := [.margin 0] }).out =
    [.driveSelect 0, .driveStrobe 0 .normal] := by decide +kernel
/-- R35: the sixth mark of a FAILURE hold with no capture answers NO DATA and is withheld. -/
theorem test_failure_expiry : (after (.failureHoldExpiry 0 [])
    { up { unitUp with hold := some ⟨.failure, 5, 5, 202, 9, 15⟩ } with
      current := some ⟨0, 202, 9, 15, .read .held, none, false⟩ }).out = [.answer 0 .noData] := by
  decide +kernel
/-- R33: a mark of a unit without a hold goes through. -/
theorem test_index_mark : (after (.indexMark 0 []) (up unitUp)).out = [.index 0] := by decide
/-- R39: a BLOCK unit answers PROTECTED. -/
theorem test_write_blocked : (after (.writeSector 0 0 [] none) (up { unitUp with policy := .block })).out =
    [.answer 0 .writeProtected] := by decide
/-- R41: a format under REDIRECT is blocked. -/
theorem test_format_blocked : (after (.formatTrack 0 []) (up { unitUp with policy := .redirect })).out =
    [.answer 0 .writeProtected] := by decide
/-- R18: a seek passes to the drive that the joined lines address. -/
theorem test_joined_seek : (after (.seek 5) joined).out = [.driveSeek 0 (.to 5)] := by decide
/-- R70: with a job shortened no track job is made, though the room would hold one. -/
theorem test_no_slots_while_shortened :
    (after (.recoverTrack 1 0 202 9 2) (withJobs [{ sectorJob 1 [] with granted := 9 }] (up unitUp))).response.get 2
      = 10 := by decide +kernel
/-- R55: a fall of READY leaves both cylinders unknown. -/
theorem test_ready_fall : ((after (.readyFall 0 []) (up unitUp)).unit 0).controllerCyl = none ∧
    ((after (.readyFall 0 []) (up unitUp)).unit 0).driveCyl = none := by decide +kernel
/-- R168: an unknown request is answered 4, a second one unread sets the mark word. -/
theorem test_request_refused : ((after (.requestRefused [16, 0o7757] 0) (up unitUp)).response.get 2) = 4 ∧
    ((after (.setLimits 1 0 5 100) (after (.reportStatus 9) (up unitUp))).response.get 4) = 1 := by
  decide +kernel
/-- R175: Q, T and H are brought to their ranges. -/
theorem test_set_limits : (after (.setLimits 1 0 5 100) (up unitUp)).q = 1 ∧
    (after (.setLimits 1 0 5 100) (up unitUp)).t = 4 ∧
    (after (.setLimits 1 0 5 100) (up unitUp)).holdLimit = 64 := by decide +kernel
/-- R174: PASS to REDIRECT is POLICY_STEP. -/
theorem test_policy_step : (after (.setPolicy 1 0 2) (up unitUp)).response.get 2 = 8 := by decide +kernel
/-- R124: RECOVER TRACK of 24 sectors and 8 revolutions is granted the 6 that 160 slots hold. -/
theorem test_recover_track : (after (.recoverTrack 1 0 202 9 8) (up unitUp)).response.get 7 = 6 := by
  decide +kernel

/-! ### Witnesses: the hypotheses of each statement, met -/

/-- The bypass is open and the controller unit is 0 when the operation is taken. -/
abbrev Open (s : State) : Prop := s.bypassOpen = true ∧ (s.taken []).controllerUnit = 0

/-- And unit 0 is in service at cylinder 202 when the operation is taken. -/
abbrev OnDrive (s : State) : Prop :=
  Open s ∧ ((s.taken []).unit 0).ready = true ∧ ((s.taken []).unit 0).seekPending = false ∧
    ((s.taken []).unit 0).controllerCyl = some 202

/-- And `address` lies in its geometry, no store entry holding it. -/
abbrev OnSector (s : State) : Prop :=
  OnDrive s ∧ ((s.taken []).unit 0).geometry.present = true ∧ (s.taken []).lookup address = none ∧
    202 < ((s.taken []).unit 0).geometry.cylinders ∧ 9 < ((s.taken []).unit 0).geometry.heads ∧
    15 < ((s.taken []).unit 0).geometry.sectors

theorem witness_StepRunsFrontCommand : State.reset.pending = [] ∧
    ({ State.reset with pending := [.bypassOpen] }).pending = .bypassOpen :: [] := by decide
/-- The unit's own command; a seek, a select, an operation and an answer on the lines; a drive that stops. -/
theorem witness_ClosedBypassKeepsEverything : joined.bypassOpen = false ∧
    (bypassed (.grant []) = true ∧ onLines (.grant []) = false) ∧
    (onLines (.seek 5) = true ∧ joined.passing (.seek 5) = [.driveSeek 0 (.to 5)]) ∧
    joined.passing (.unitSelect 3) = [.driveSelect 3] ∧
    joined.passing (.readSector 9 14 []) = [.driveOp 0 (.readSector 9 14)] ∧
    joined.passing (.streamChecked .noData []) = [.answer 0 .noData] ∧
    joined.joinedOp.map Prod.fst = some 0 := by decide
/-- With an operation in progress on the joined lines, and with none. -/
theorem witness_BypassOpens : (joined.powered = true ∧ joined.bypassOpen = false ∧ joined.joinedOp ≠ none) ∧
    State.reset.powered = true ∧ State.reset.bypassOpen = false ∧ State.reset.joinedOp = none ∧
    State.reset.items = [] := by decide
theorem witness_UnitSelectAnswered : (up unitUp).bypassOpen = true := by decide
/-- No item of the unit, one not yet issued among others, an issued one. -/
theorem witness_SeekTaken : ∀ l ∈ [[], [Item.margin 0, .seek 0 (.to 3) false, .seek 1 .zero false],
    [.seek 0 (.to 3) true]], Open { up unitUp with items := l } ∧
    ({ up unitUp with items := l } : State).taken [] = { up unitUp with items := l } := by decide +kernel
/-- R23, R45: a SEEK taken before the unit's first is issued stands where that stood. -/
theorem test_seek_keeps_age :
    (after (.seek 7) { up unitUp with items := [.margin 0, .seek 0 (.to 3) false, .seek 1 .zero false] }).items =
      [.margin 0, .seek 0 (.to 7) false, .seek 1 .zero false] := by decide
theorem witness_NotReadyAndOffCylinderAnswered :
    (Open (up UnitEntry.reset) ∧ (((up UnitEntry.reset).taken []).unit 0).controllerCyl ≠ some 1023 ∧
      (((up UnitEntry.reset).taken []).unit 0).ready = false) ∧
    (Open (up { unitUp with seekPending := true }) ∧
      (((up { unitUp with seekPending := true }).taken []).unit 0).controllerCyl ≠ some 1023 ∧
      (((up { unitUp with seekPending := true }).taken []).unit 0).ready = true ∧
      (((up { unitUp with seekPending := true }).taken []).unit 0).seekPending = true) := by decide
/-- A read and a write for a drive that reports DRIVE FAULT. -/
theorem witness_NotReadyAndOffCylinderAnswered_fault :
    OnSector (up { unitUp with faultLine := true }) ∧
    (((up { unitUp with faultLine := true }).taken []).unit 0).faultLine = true ∧
    ((up { unitUp with faultLine := true }).taken []).sectorJob address = none ∧
    ((up { unitUp with faultLine := true }).taken []).trackJob 0 202 9 = none ∧
    (((up { unitUp with faultLine := true }).taken []).unit 0).policy = .pass := by decide +kernel
theorem witness_ResponseRead : Open upMaint ∧ ((upMaint.taken []).unit 0).controllerCyl = some 1023 := by
  decide

/-- A store that holds an entry of `address`. -/
def stored (o : StoreOrigin) (e : UnitEntry) : State := { up e with store := [entryOf address o] }

theorem witness_ReadServedFromStore : OnDrive (stored .vote unitUp) ∧
    (((stored .vote unitUp).taken []).unit 0).geometry.present = true ∧
    ((stored .vote unitUp).taken []).lookup address = some (entryOf address .vote) ∧
    (entryOf address .vote).damaged = false ∧
    (readEntry (entryOf address .vote) ((stored .vote unitUp).taken [])).1 = some (dataWith 5) := by
  decide +kernel

/-- A store whose entry of `address` does not read out, damaged or not. -/
def spoilt (o : StoreOrigin) (damaged : Bool) : State :=
  { up unitUp with store := [{ entryOf address o with check := storeWord 6, damaged := damaged }] }

/-- A damaged entry; a redirected and an ordinary one whose readout fails. -/
theorem witness_ReadServedFromStore_failed : ∀ p ∈ [(StoreOrigin.redirectedWrite, true),
      (.redirectedWrite, false), (.vote, false)],
    OnDrive (spoilt p.1 p.2) ∧ (spoilt p.1 p.2).current = none ∧
    ((spoilt p.1 p.2).taken []).lookup address =
      some { entryOf address p.1 with check := storeWord 6, damaged := p.2 } ∧
    (readEntry { entryOf address p.1 with check := storeWord 6, damaged := p.2 }
      ((spoilt p.1 p.2).taken [])).1 = none := by decide +kernel

theorem witness_PassReadTaken : OnSector (up unitUp) ∧
    ((up unitUp).taken []).sectorJob address = none ∧ ((up unitUp).taken []).trackJob 0 202 9 = none ∧
    (((up unitUp).taken []).unit 0).faultLine = false ∧ 1 ≤ ((up unitUp).taken []).available ∧
    (((up unitUp).taken []).slot 0).state = .free := by decide +kernel
/-- Every slot is in use. -/
def allHeld (s : State) : State := { s with slots := Table.fill 160 { Slot.free with state := .held } }

/-- The clause of an available count of 0. -/
theorem witness_PassReadTaken_full : OnSector (allHeld (up unitUp)) ∧
    ((allHeld (up unitUp)).taken []).sectorJob address = none ∧
    ((allHeld (up unitUp)).taken []).trackJob 0 202 9 = none ∧
    (((allHeld (up unitUp)).taken []).unit 0).faultLine = false ∧
    ((allHeld (up unitUp)).taken []).available = 0 := by decide +kernel
/-- A unit not present; an address outside the geometry; an address with a job under CUT_THROUGH. -/
theorem witness_PassReadTaken_kinds :
    (OnDrive (up { unitUp with geometry := Geometry.reset }) ∧
      (((up { unitUp with geometry := Geometry.reset }).taken []).unit 0).geometry.present = false) ∧
    (((up unitUp).taken []).lookup ⟨0, 202, 9, 24⟩ = none ∧
      ¬(24 < (((up unitUp).taken []).unit 0).geometry.sectors)) ∧
    ∀ l ∈ [[sectorJob 1 []], [trackJob 1]],
      OnSector (withJobs l (up cutThroughUnit)) ∧
      (((withJobs l (up cutThroughUnit)).taken []).unit 0).geometry.mode = .cutThrough ∧
      (((withJobs l (up cutThroughUnit)).taken []).sectorJob address ≠ none ∨
        ((withJobs l (up cutThroughUnit)).taken []).trackJob 0 202 9 ≠ none) := by decide +kernel
theorem witness_OwnedReadPromotes : OnSector (withJobs [sectorJob 1 []] (up unitUp)) ∧
    ((withJobs [sectorJob 1 []] (up unitUp)).taken []).sectorJob address = some (sectorJob 1 []) ∧
    (((withJobs [sectorJob 1 []] (up unitUp)).taken []).unit 0).geometry.mode = .checkFirst := by
  decide +kernel

/-- A track job that has, or has not, a CLEAN capture of sector 15 in slot 0. -/
def cleanTrackJob (i : Option SlotId) : Job :=
  { trackJob 1 with rows := (trackJob 1).rows.set 15 { SectorRow.empty with list := i.toList, firstClean := i } }
def cleanTrack (i : Option SlotId) : State :=
  { withJobs [cleanTrackJob i] (up unitUp) with
    slots := (Table.fill 160 Slot.free).set 0 { Slot.free with
      state := .held, owner := some (.job 1), words := (streamOf (dataWith 5) 5).map storeWord } }

theorem witness_OwnedReadPromotes_track : ∀ i ∈ [none, some (0 : SlotId)], OnSector (cleanTrack i) ∧
    ((cleanTrack i).taken []).sectorJob address = none ∧
    ((cleanTrack i).taken []).trackJob 0 202 9 = some (cleanTrackJob i) ∧
    (rowOf (cleanTrackJob i) 15).firstClean = i ∧ (readData 0 (cleanTrack i)).1 = some (dataWith 5) ∧
    ((cleanTrack i).taken []).NumbersSound ∧
    ∀ x ∈ ((cleanTrack i).taken []).jobList, x.foreground = false := by
  unfold State.NumbersSound
  decide +kernel
theorem witness_WriteBlocked :
    (OnDrive (up { unitUp with policy := .block }) ∧
      ((up { unitUp with policy := .block }).unit 0).policy = .block) ∧
    (OnDrive (up { unitUp with policy := .redirect, geometry := Geometry.reset }) ∧
      ((up { unitUp with policy := .redirect, geometry := Geometry.reset }).unit 0).policy = .redirect ∧
      ((up { unitUp with policy := .redirect, geometry := Geometry.reset }).unit 0).geometry.present =
        false) ∧
    (OnDrive (up { unitUp with policy := .redirect }) ∧
      ((up { unitUp with policy := .redirect }).unit 0).policy ≠ .pass) ∧
    (Open upMaint ∧ ((upMaint.taken []).unit 0).controllerCyl = some 1023) := by decide
theorem witness_RedirectedWriteKept : ∀ s ∈ [up { unitUp with policy := .redirect },
      stored .vote { unitUp with policy := .redirect }],
    OnDrive s ∧ (s.unit 0).policy = .redirect ∧ (s.unit 0).geometry.present = true ∧
    (dataWith 5).length = 256 ∧ wordSum (dataWith 5) = 5 ∧
    (s.store.length < 64 ∨ ∃ e ∈ s.store, e.key = address) := by decide +kernel
/-- A store of 63 redirected entries and one more. -/
def packed (e : Entry) : State :=
  { up { unitUp with policy := .redirect } with
    store := ((List.range 63).map fun k => newEntry ⟨0, 300, 0, k⟩ .redirectedWrite 0 [] false) ++ [e] }

/-- The last entry stale, though pinned; current and unpinned; current and pinned, so that nothing is
evicted. -/
theorem witness_RedirectedWriteKept_full : ∀ e ∈ [newEntry ⟨0, 300, 1, 0⟩ .vote 1 [] true,
      newEntry ⟨0, 300, 1, 0⟩ .vote 0 [] false, newEntry ⟨0, 300, 1, 0⟩ .vote 0 [] true],
    OnDrive (packed e) ∧ 64 ≤ ((packed e).taken []).store.length ∧
    (∀ x ∈ ((packed e).taken []).store, x.key ≠ address) ∧
    (∀ x ∈ ((packed e).taken []).store, x.origin = .redirectedWrite ∨ x = e) ∧
    e.origin = .vote := by decide +kernel
/-- The record queue full. -/
theorem witness_RedirectedWriteMismatch_full : ∀ s,
    s = { up { unitUp with policy := .redirect } with records := List.replicate 128 (noJobRecord address 0) } →
    OnDrive s ∧ 128 ≤ (s.taken []).records.length := by
  rintro _ rfl
  decide +kernel
theorem witness_RedirectedWriteMismatch : OnDrive (up { unitUp with policy := .redirect }) ∧
    ((up { unitUp with policy := .redirect }).unit 0).policy = .redirect ∧
    ((up { unitUp with policy := .redirect }).unit 0).geometry.present = true ∧
    (dataWith 5).length = 256 ∧ wordSum (dataWith 5) ≠ 6 ∧
    (up { unitUp with policy := .redirect }).records.length < 128 := by decide +kernel
/-- A write in receipt: of sector 0 of the maintenance cylinder, and a redirected one without its
checkword. -/
theorem witness_RedirectedWriteMismatch_receiving :
    (Open upMaint ∧ ((upMaint.taken []).unit 0).controllerCyl = some 1023 ∧
      ([1] : List Word).length < 256) ∧
    ∀ s : State, s = (up { unitUp with policy := .redirect }).taken [] →
      (s.unit 0).controllerCyl = some 202 ∧ (s.unit 0).ready = true ∧ (s.unit 0).seekPending = false ∧
      (s.unit 0).policy = .redirect ∧ (s.unit 0).geometry.present = true := by
  refine ⟨by decide, ?_⟩
  rintro _ rfl
  decide
theorem witness_PassWriteTaken : OnDrive (up unitUp) ∧ ((up unitUp).unit 0).policy = .pass ∧
    ((up unitUp).unit 0).faultLine = false := by decide
theorem witness_CableInitialized : (up unitUp).bypassOpen = true := by decide
theorem witness_AbandonmentEndsTheOperation : (waitingFor (.read .pass)).current.isSome = true ∧
    ∀ j ∈ (waitingFor (.read .pass)).jobList, ∀ k ∈ (waitingFor (.read .pass)).jobList,
      j.foreground = true → k.foreground = true → j.number = k.number := by decide
/-- A write and a format cut off on the cable. -/
theorem witness_AbandonmentEndsTheOperation_cut : ∀ k ∈ [OpKind.write [1] none, .format [1]], ∀ s : State,
    s = { up unitUp with current := some ⟨0, 202, 9, 15, k, none, true⟩ } →
    s.current = some ⟨0, 202, 9, 15, k, none, true⟩ ∧ s.jobList = [] := by
  rintro k - _ rfl
  exact ⟨rfl, show (up unitUp).jobList = [] by decide⟩
/-- A pass read that waits for the cable with slot 0. -/
theorem witness_AbandonmentEndsTheOperation_slot : ∀ s : State,
    s = { reading none with
      grant := none, current := some ⟨0, 202, 9, 15, .read .pass, some 0, false⟩ } →
    s.current = some ⟨0, 202, 9, 15, .read .pass, some 0, false⟩ ∧ s.jobList = [] ∧
    (s.slot 0).owner = some .relay := by
  rintro _ rfl
  decide +kernel
theorem witness_IndexMarkTaken : (up unitUp).bypassOpen = true ∧ ((up unitUp).unit 0).hold = none ∧
    (reading (some ⟨.wait, 4, 4, 202, 9, 15⟩)).bypassOpen = true ∧
    ((reading (some ⟨.wait, 4, 4, 202, 9, 15⟩)).unit 0).hold = some ⟨.wait, 4, 4, 202, 9, 15⟩ ∧
    4 + 1 < (reading (some ⟨.wait, 4, 4, 202, 9, 15⟩)).holdLimit := by decide +kernel
theorem witness_WaitHoldExpires : (reading (some waitHold)).bypassOpen = true ∧
    ((reading (some waitHold)).unit 0).hold = some waitHold ∧
    waitHold.kind = .wait ∧ (reading (some waitHold)).holdLimit ≤ waitHold.count + 1 ∧
    (reading (some waitHold)).foregroundJob = none := by decide +kernel

/-- A track job that has filed slot 0 under sector 15, foreground, its read of that sector held. -/
def filedJob : Job :=
  { trackJob 1 with
    foreground := true, rows := (trackJob 1).rows.set 15 { SectorRow.empty with list := [0], firstFiled := some 0 } }
def heldForTrack : State :=
  withJobs [filedJob] { up { unitUp with hold := some waitHold } with
    current := some ⟨0, 202, 9, 15, .read .held, none, false⟩ }

/-- The clause of a filed capture. -/
theorem witness_WaitHoldExpires_filed : heldForTrack.bypassOpen = true ∧
    (heldForTrack.unit 0).hold = some waitHold ∧ waitHold.kind = .wait ∧
    heldForTrack.holdLimit ≤ waitHold.count + 1 ∧
    heldForTrack.current = some ⟨0, 202, 9, 15, .read .held, none, false⟩ ∧
    heldForTrack.foregroundJob = some filedJob ∧ filedJob.kind = .track ∧
    (rowOf filedJob 15).firstFiled = some 0 ∧
    ((readWhole 0 (beginCommand [] heldForTrack)).1).isSome = true := by decide +kernel

/-- A controller held for a sector job whose list is empty, or holds slot 0. -/
def heldFor (list : List SlotId) : State :=
  withJobs [{ sectorJob 1 list with foreground := true }]
    { up { unitUp with hold := some failureHold } with
      current := some ⟨0, 202, 9, 15, .read .held, none, false⟩ }

theorem witness_FailureHoldExpires : ∀ l ∈ [[], [(0 : SlotId)]],
    (heldFor l).bypassOpen = true ∧ ((heldFor l).unit 0).hold = some failureHold ∧
    failureHold.kind = .failure ∧ (heldFor l).holdLimit ≤ failureHold.count + 1 ∧
    (heldFor l).current = some ⟨0, 202, 9, 15, .read .held, none, false⟩ ∧
    (heldFor l).foregroundJob = some { sectorJob 1 l with foreground := true } ∧
    (sectorJob 1 l).kind = .sector ∧
    (fallbackCapture { sectorJob 1 l with foreground := true } = none ∨
      fallbackCapture { sectorJob 1 l with foreground := true } = some 0 ∧
        ((readWhole 0 (beginCommand [] (heldFor l))).1).isSome = true) := by decide +kernel

theorem witness_GrantOrder : (reading none).bypassOpen = true ∧ (reading none).grant ≠ none ∧
    (up unitUp).grant = none ∧ ({ up unitUp with items := [.margin 0] }).itemMayGo (.margin 0) = true ∧
    (∀ x ∈ (up unitUp).items, (up unitUp).itemMayGo x = false) ∧
    (∀ j ∈ (up unitUp).jobList, (up unitUp).jobMayGo j = false) := by decide +kernel
/-- Two background jobs that may go, and a foreground job with one of lower key. -/
theorem witness_GrantOrder_keys : ∀ f ∈ [false, true], ∀ s : State,
    s = withJobs [{ sectorJob 2 [] with cyl := 7, foreground := f }, { trackJob 1 with cyl := 8 }] (up unitUp) →
    s.NumbersSound ∧ (∀ x ∈ s.items, s.itemMayGo x = false) ∧ (∀ j ∈ s.jobList, s.jobMayGo j = true) ∧
    (trackJob 1).notAfter (sectorJob 2 []) := by
  intro f hf s hs
  subst hs
  unfold State.NumbersSound Job.notAfter
  revert f
  decide +kernel
/-- The conditions of R46, one failing after the other: READY, DRIVE FAULT, motion, claim, owner, slots,
cylinder; and an owned unit's own job, the foreground job, and a job in AWAITING with its slot. -/
theorem witness_GrantOrder_conditions : ∀ x ∈
    [(up { unitUp with ready := false }, { sectorJob 1 [] with cyl := 7 }, false),
      (up { unitUp with faultLine := true }, { sectorJob 1 [] with cyl := 7 }, false),
      (up { unitUp with motion := some seeking }, { sectorJob 1 [] with cyl := 7 }, false),
      (waitingFor (.read .pass), { sectorJob 1 [] with cyl := 7 }, false),
      (up { unitUp with owner := some 2 }, { sectorJob 1 [] with cyl := 7 }, false),
      (up { unitUp with owner := some 1 }, { sectorJob 1 [] with cyl := 7 }, true),
      (up { unitUp with owner := some 2 }, { sectorJob 1 [] with cyl := 7, foreground := true }, true),
      (up unitUp, { sectorJob 1 [] with state := .awaiting }, false),
      (up { unitUp with driveCyl := some 7 }, { sectorJob 1 [] with state := .awaiting, filling := [0] }, false),
      (up unitUp, { sectorJob 1 [] with state := .awaiting, filling := [0] }, true)],
    x.1.jobMayGo x.2.1 = x.2.2 := by decide +kernel
/-- Positioning: RESEEK at step 6 and ZERO of a track reseek; a seek; EARLY at step 2 and FORWARD at step
4. -/
theorem witness_GrantOrder_positioning :
    ((up unitUp).planStep { sectorJob 1 [] with stepIndex := 6 } = ⟨.normal, .centre, .reseek, 2, 3⟩ ∧
      Job.actionDue { sectorJob 1 [] with stepIndex := 6 } ⟨.normal, .centre, .reseek, 2, 3⟩ = .reseek ∧
      ((up unitUp).unit 0).recovery = none ∧ ((up unitUp).unit 0).geometry.cylinders = 1000) ∧
    ((up unitUp).planStep (trackJob 1) = ⟨.normal, .centre, .none, 2, 3⟩ ∧
      Job.actionDue { trackJob 1 with trackReseek := true } ⟨.normal, .centre, .none, 2, 3⟩ = .zero) ∧
    ((up { unitUp with driveCyl := none }).unit 0).driveCyl ≠ some (sectorJob 1 []).cyl ∧
    ((up unitUp).planStep { sectorJob 1 [] with stepIndex := 2 } = ⟨.early, .centre, .none, 1, 2⟩ ∧
      ((up unitUp).unit 0).strobe ≠ some .early) ∧
    ((up unitUp).planStep { sectorJob 1 [] with stepIndex := 4 } = ⟨.normal, .forward, .none, 1, 2⟩ ∧
      ((up unitUp).unit 0).driveCyl = some (sectorJob 1 []).cyl ∧
      ((up unitUp).unit 0).strobe = some .normal ∧ ((up unitUp).unit 0).offset ≠ some .forward) ∧
    (sectorJob 1 []).state = .queued ∧ (trackJob 1).state = .queued := by decide
/-- A job in AWAITING with its slots, of each kind; a retry's two commands; the unit owned by another job. -/
theorem witness_GrantOrder_work :
    (∀ j ∈ [{ sectorJob 1 [] with state := .awaiting, filling := [0] },
        { trackJob 1 with state := .awaiting, filling := [0, 1] }],
      (withJobs [j] (up unitUp)).job j.number = some j ∧
      (up unitUp).planStep j = ⟨.normal, .centre, .none, 2, 3⟩) ∧
    (∀ x ∈ [RetryPhase.homeDue, .seekDue], ∃ (c : SeekCmd) (next : Recovery),
      Recovery.granted ⟨.job 1, 202, false, 0, x, true⟩ c next) ∧
    (withJobs [sectorJob 1 [], { sectorJob 2 [] with cyl := 7 }] (up { unitUp with owner := some 2 })).job 2 =
      some { sectorJob 2 [] with cyl := 7 } := by
  refine ⟨by decide, fun x hx => ?_, by decide⟩
  fin_cases hx
  · exact ⟨_, _, .inl ⟨rfl, rfl, rfl⟩⟩
  · exact ⟨_, _, .inr ⟨rfl, rfl, rfl⟩⟩
/-- The drive elsewhere; its strobe, then its offset, not the controller's. -/
theorem witness_PassReadIssued_positioning : ∀ e ∈ [{ unitUp with driveCyl := none },
      { unitUp with strobe := none }, { unitUp with offset := some .forward }], ∀ s : State,
    s = { up e with items := [.operation 0], current := some ⟨0, 202, 9, 15, .read .pass, none, false⟩ } →
    s.bypassOpen = true ∧ s.grant = none ∧ s.items = .operation 0 :: [] ∧ (s.unit 0).motion = none ∧
    (s.unit 0).recovery = none ∧ ((s.unit 0).driveCyl ≠ some 202 ∨ (s.unit 0).strobe ≠ some .normal ∨
      (s.unit 0).offset ≠ some .centre) := by
  intro e he s hs
  subst hs
  revert e
  decide
theorem witness_PassReadIssued : ∀ k ∈ [OpKind.read .pass, .read .owned, .read .outside, .read .straight,
      .write [] none],
    (waitingFor k).bypassOpen = true ∧ (waitingFor k).grant = none ∧
    (waitingFor k).items = .operation 0 :: [] ∧
    (waitingFor k).current = some ⟨0, 202, 9, 15, k, none, false⟩ ∧
    ((waitingFor k).unit 0).motion = none ∧ ((waitingFor k).unit 0).recovery = none ∧
    ((waitingFor k).unit 0).driveCyl = some 202 ∧ ((waitingFor k).unit 0).strobe = some .normal ∧
    ((waitingFor k).unit 0).offset = some .centre ∧ ((waitingFor k).unit 0).owner = none := by decide
/-- The unit owned by a job, in each of its states. -/
theorem witness_PassReadIssued_owner : ∀ x ∈ [JobState.queued, .positioning, .awaiting, .capturing, .merging],
    ∀ s : State, s = withJobs [{ sectorJob 1 [] with state := x }] { waitingFor (.read .pass) with
      units := (waitingFor (.read .pass)).units.set 0 { unitUp with owner := some 1 } } →
    (s.unit 0).owner = some 1 ∧ s.job 1 = some { sectorJob 1 [] with state := x } := by
  intro x hx s hs
  subst hs
  revert x
  decide
/-- The controller's seek item, new and with a retry due; a margin item with both, one and no margin
wanted. -/
theorem witness_PassReadIssued_items :
    (∀ r ∈ [none, some ⟨.controller, 5, false, 0, RetryPhase.homeDue, false⟩], ∀ s : State,
      s = { up { unitUp with recovery := r, owner := some 1 } with items := [.seek 0 (.to 5) r.isSome] } →
      s.bypassOpen = true ∧ s.grant = none ∧ s.items = .seek 0 (.to 5) r.isSome :: [] ∧
      (s.unit 0).motion = none ∧ (s.unit 0).recovery = r) ∧
    (∃ (c : SeekCmd) (next : Recovery), Recovery.granted ⟨.controller, 5, false, 0, .homeDue, false⟩ c next) ∧
    ∀ e ∈ [{ unitUp with strobe := none, offset := none }, { unitUp with offset := none }, unitUp],
      ({ up e with items := [.margin 0] }).items = .margin 0 :: [] ∧
      (({ up e with items := [.margin 0] }).unit 0).motion = none := by
  refine ⟨?_, ⟨_, _, .inl ⟨rfl, rfl, rfl⟩⟩, by decide⟩
  intro r hr s hs
  subst hs
  revert r
  decide
theorem witness_PassWriteIssued : (waitingFor (.write [] none)).bypassOpen = true ∧
    (waitingFor (.write [] none)).grant = none ∧
    (waitingFor (.write [] none)).items = .operation 0 :: [] ∧
    (waitingFor (.write [] none)).current = some ⟨0, 202, 9, 15, .write [] none, none, false⟩ ∧
    ((waitingFor (.write [] none)).unit 0).motion = none ∧
    ((waitingFor (.write [] none)).unit 0).recovery = none ∧
    ((waitingFor (.write [] none)).unit 0).driveCyl = some 202 ∧
    ((waitingFor (.write [] none)).unit 0).strobe = some .normal ∧
    ((waitingFor (.write [] none)).unit 0).offset = some .centre := by decide
/-- A write under a sector job, a write and a format under a track job with no foreground job. -/
theorem witness_PassWriteIssued_jobs : ∀ k ∈ [OpKind.write [] none, .format []],
    ∀ l ∈ [[sectorJob 1 []], [trackJob 1]], ∀ s : State, s = withJobs l (waitingFor k) →
    s.items = .operation 0 :: [] ∧ s.NumbersSound ∧ s.OwnersSound ∧
    (∀ j ∈ s.jobList, j.foreground = false) ∧
    (s.sectorJob address = some (sectorJob 1 []) ∨ s.trackJob 0 202 9 = some (trackJob 1)) ∧
    15 < (trackJob 1).rows.length ∧ (trackJob 1).state ≠ .merging ∧
    (rowOf (trackJob 1) 14).superseded = false := by
  intro k hk l hl s hs
  subst hs
  revert k l
  unfold State.NumbersSound State.OwnersSound
  decide +kernel
/-- The controller's seek on unit 0 under way, its retries as given. -/
def seekingState (r : Option Recovery) : State :=
  up { unitUp with motion := some seeking, seekPending := true, recovery := r }

theorem witness_SeekEndRaised : (seekingState none).bypassOpen = true ∧
    ((seekingState none).unit 0).motion = some seeking ∧ seeking.issuer = .controller ∧
    seeking.givenUp = false ∧ seeking.silent = false ∧ ((seekingState none).unit 0).recovery = none ∧
    ((seekingState none).unit 0).seekPending = true ∧
    ((seekingState none).unit 0).controllerCyl = some seeking.target := by decide
/-- A seek of the relay, of a job, a retry of one, and one that its issuer has given up. -/
theorem witness_SeekEndRaised_others :
    ∀ m ∈ [{ seeking with issuer := .relay }, { seeking with issuer := .job 1, forAction := true },
      { seeking with givenUp := true }, { seeking with issuer := .job 1, givenUp := true }],
    ∀ r ∈ [none, some ⟨.job 1, 202, false, 1, RetryPhase.homeMoving, true⟩], ∀ s : State,
    s = withJobs [{ sectorJob 1 [] with state := .positioning }]
      (up { unitUp with motion := some m, recovery := r }) →
    s.bypassOpen = true ∧ (s.unit 0).motion = some m ∧ (s.unit 0).recovery = r ∧
    (s.unit 0).geometry.retryLimit = 3 := by
  intro m hm r hr s hs
  subst hs
  revert m r
  decide
/-- One retry left, and none left. -/
theorem witness_SeekFaultRetriedOrShown : ∀ used ∈ [2, 3],
    (seekingState (some ⟨.controller, 202, false, used, .seekMoving, false⟩)).bypassOpen = true ∧
    ((seekingState (some ⟨.controller, 202, false, used, .seekMoving, false⟩)).unit 0).motion =
      some seeking ∧ seeking.givenUp = false ∧
    ((seekingState (some ⟨.controller, 202, false, used, .seekMoving, false⟩)).unit 0).recovery =
      some ⟨.controller, 202, false, used, .seekMoving, false⟩ ∧
    ((seekingState none).unit 0).recovery = none ∧
    ((seekingState none).unit 0).geometry.retryLimit = 3 := by decide
/-- The retries of the relay's repositioning exhausted, slot 0 taken for its read. -/
theorem witness_SeekFaultRetriedOrShown_relay : ∀ s : State,
    s = { reading none with
      units := (reading none).units.set 0 { unitUp with
        motion := some { seeking with issuer := .relay }
        recovery := some ⟨.relay, 202, false, 3, .seekMoving, false⟩ }
      grant := none, current := some ⟨0, 202, 9, 15, .read .pass, some 0, false⟩ } →
    s.bypassOpen = true ∧ (s.unit 0).motion = some { seeking with issuer := .relay } ∧
    (s.unit 0).recovery = some ⟨.relay, 202, false, 3, .seekMoving, false⟩ ∧
    (s.unit 0).geometry.retryLimit ≤ 3 ∧ (s.slot 0).owner = some .relay := by
  rintro _ rfl
  decide
/-- Those of a job: a background one of each kind, a foreground one without and with a capture. -/
theorem witness_SeekFaultRetriedOrShown_job :
    ∀ j ∈ [sectorJob 1 [], trackJob 1, { sectorJob 1 [] with foreground := true },
      { sectorJob 1 [0] with foreground := true }], ∀ s : State,
    s = withJobs [j] { heldForTrack with units := heldForTrack.units.set 0 { unitUp with
        hold := some failureHold, motion := some { seeking with issuer := .job 1 }
        recovery := some ⟨.job 1, 202, false, 3, .seekMoving, true⟩ } } →
    s.bypassOpen = true ∧ (s.unit 0).motion = some { seeking with issuer := .job 1 } ∧
    (s.unit 0).recovery = some ⟨.job 1, 202, false, 3, .seekMoving, true⟩ ∧
    (s.unit 0).geometry.retryLimit ≤ 3 ∧ s.job 1 = some j ∧ s.records.length < 128 ∧
    s.current = some ⟨0, 202, 9, 15, .read .held, none, false⟩ := by
  intro j hj s hs
  subst hs
  revert j
  decide
/-- A held controller: no capture; one that reads out; one that does not; first filed or none of a track
job. -/
theorem witness_SeekFaultRetriedOrShown_held :
    (fallbackCapture (sectorJob 1 []) = none ∧ fallbackCapture (sectorJob 1 [0]) = some 0 ∧
      (rowOf (trackJob 1) 15).firstFiled = none ∧
      (rowOf { trackJob 1 with rows := (trackJob 1).rows.set 15 { SectorRow.empty with
        firstFiled := some 0 } } 15).firstFiled = some 0) ∧
    (heldForTrack.unit 0).controllerCyl ≠ some 1023 ∧
    (readWhole 0 (beginCommand [] (cleanTrack (some 0)))).1 = some (streamOf (dataWith 5) 5) ∧
    (readWhole 0 (beginCommand [[(0, 1)]] (cleanTrack (some 0)))).1 = none := by decide +kernel
theorem witness_UnitFails : (up unitUp).bypassOpen = true ∧ ((up unitUp).unit 0).faultLine = false ∧
    ((up unitUp).unit 0).readyLine = true ∧ (up unitUp).jobList = [] := by decide
/-- A line that has changed already; and a held foreground job elsewhere, its read not on cylinder 1023. -/
theorem witness_UnitFails_held : ((up { unitUp with faultLine := true }).unit 0).faultLine = true ∧
    ((up UnitEntry.reset).unit 0).readyLine = false ∧ ∀ s : State,
      s = withJobs [{ sectorJob 1 [] with foreground := true }]
        { up unitUp with current := some ⟨0, 202, 9, 15, .read .held, none, false⟩ } →
      (s.unit 1).faultLine = false ∧ (s.unit 0).controllerCyl ≠ some 1023 := by
  refine ⟨by decide, by decide, ?_⟩
  rintro _ rfl
  decide
/-- The unit owned by its job; the controller's read waiting with slot 0; and on the cable. -/
theorem witness_UnitFails_work : ∀ s : State,
    s = withJobs [sectorJob 1 []] { reading none with
      units := (reading none).units.set 0 { unitUp with owner := some 1 }
      current := some ⟨0, 202, 9, 15, .read .pass, some 0, false⟩ } →
    (s.unit 0).owner = some 1 ∧ (∃ j ∈ s.jobList, j.number = 1 ∧ j.unit = 0) ∧
    (s.slot 0).owner = some .relay ∧ (∀ j ∈ s.jobList, j.foreground = false) ∧
    receivingWrite ⟨0, 202, 9, 15, .read .pass, some 0, false⟩ = false ∧
    s.grant = some (sectorGrantOf (.relay .pass) 0) := by
  rintro _ rfl
  decide +kernel
theorem witness_UnitReturnsToService : (up { unitUp with faultLine := true }).bypassOpen = true ∧
    ((up { unitUp with faultLine := true }).unit 0).faultLine = true ∧
    (up UnitEntry.reset).bypassOpen = true ∧ ((up UnitEntry.reset).unit 0).readyLine = false := by decide

theorem witness_CleanReadDelivered : (reading none).bypassOpen = true ∧
    (reading none).grant = some (sectorGrantOf (.relay .pass) 0) ∧
    (reading none).current = some ⟨0, 202, 9, 15, .read .pass, some 0, true⟩ ∧
    ((reading none).slot 0).owner = some .relay ∧
    (judge 202 9 15 (.complete (streamOf (dataWith 5) 5))).outcome = .clean ∧
    deliveredWords (.complete (streamOf (dataWith 5) 5)) = some (streamOf (dataWith 5) 5) ∧
    ((reading none).unit 0).geometry.mode = .checkFirst ∧
    ((reading none).unit 0).geometry.present = true := by decide +kernel

/-- `reading` on a unit as given. -/
def readingOn (e : UnitEntry) (k : ReadKind) (slots : List SlotId) (l : List Job) : State :=
  withJobs l { reading none with
    units := (reading none).units.set 0 e, grant := some { sectorGrantOf (.relay k) 0 with slots := slots } }

/-- A read outside the geometry, one straight through, and one covered by a track job. -/
theorem witness_CleanReadDelivered_sentUp_kinds : ∀ k ∈ [ReadKind.outside, .straight, .owned], ∀ s : State,
    s = readingOn cutThroughUnit k (if k = .owned then [0] else []) [trackJob 1] →
    s.grant = some { sectorGrantOf (.relay k) 0 with slots := if k = .owned then [0] else [] } ∧
    s.current = some ⟨0, 202, 9, 15, .read .pass, some 0, true⟩ ∧ s.sectorJob address = none := by
  intro k hk s hs
  subst hs
  revert k
  decide
/-- A unit not present; under CUT_THROUGH. -/
theorem witness_CleanReadDelivered_sentUp :
    ((readingOn { unitUp with geometry := Geometry.reset } .pass [0] []).unit 0).geometry.present = false ∧
    ((readingOn cutThroughUnit .pass [0] []).unit 0).geometry.mode = .cutThrough ∧
    (readingOn cutThroughUnit .pass [0] []).grant = some (sectorGrantOf (.relay .pass) 0) ∧
    ((readingOn cutThroughUnit .pass [0] []).slot 0).owner = some .relay := by decide +kernel
/-- An abandoned read: CLEAN, outside the geometry, straight through, of an owned address, not present. -/
theorem witness_CleanReadDelivered_abandoned :
    ∀ k ∈ [ReadKind.pass, .outside, .straight, .owned], ∀ s : State,
    s = { reading none with
      grant := some { sectorGrantOf (.relay k) 0 with abandoned := true }, current := none } →
    s.bypassOpen = true ∧ s.grant = some { sectorGrantOf (.relay k) 0 with abandoned := true } ∧
    s.sectorJob address = none ∧ (s.slot 0).owner = some .relay ∧
    (judge 202 9 15 (.complete (streamOf (dataWith 5) 5))).outcome = .clean ∧
    (({ s with units := Table.fill 4 UnitEntry.reset } : State).unit 0).geometry.present = false := by
  rintro k hk _ rfl
  revert k
  decide +kernel
theorem witness_FailedReadMakesJob : (reading (some waitHold)).bypassOpen = true ∧
    (reading (some waitHold)).grant = some (sectorGrantOf (.relay .pass) 0) ∧
    (reading (some waitHold)).current = some ⟨0, 202, 9, 15, .read .pass, some 0, true⟩ ∧
    ((reading (some waitHold)).unit 0).geometry.mode = .checkFirst ∧
    ((reading (some waitHold)).unit 0).hold = some waitHold ∧
    ((reading (some waitHold)).slot 0).state = .filling ∧
    ((reading (some waitHold)).slot 0).owner = some .relay ∧ (reading (some waitHold)).jobList = [] ∧
    (judge 202 9 15 (.complete (streamOf (dataWith 5) 6))).outcome = .dataCheck ∧
    (reading (some waitHold)).sectorJob address = none ∧
    (reading (some waitHold)).trackJob 0 202 9 = none ∧ (reading (some waitHold)).emptyEntry ≠ none ∧
    (reading (some waitHold)).sectorGrant true = some 8 ∧
    ((reading (some waitHold)).unit 0).geometry.present = true ∧
    (reading (some waitHold)).bankRetired 0 = false := by decide +kernel
/-- A WRONG_HEADER, its count of 1 below the threshold of 3, and NO DATA. -/
theorem witness_FailedReadMakesJob_lost : ∀ d ∈ [.complete (streamOf (dataWith 5) 5), Delivery.noData],
    (judge 202 9 14 d).outcome ∈ [CheckOutcome.wrongHeader, .noSync] ∧
    ((reading (some waitHold)).unit 0).geometry.escalation = 3 ∧
    ((reading (some waitHold)).unit 0).countedTrack = none ∧
    (reading (some waitHold)).bankRetired 1 = false := by decide +kernel
/-- A CLEAN stream of which the first or the last data word does not read back. -/
theorem witness_FailedReadMakesJob_unread : ∀ w ∈ [3, 258],
    (judge 202 9 15 (.complete (streamOf (dataWith 5) 5))).outcome = .clean ∧
    (sectorGrantOf (.relay .pass) 0).abandoned = false ∧
    ((reading (some waitHold)).banks.get (bankOf 0)).parity < 15 ∧ 3 ≤ w ∧ w < 259 ∧
    deliveredWords (.complete (streamOf (dataWith 5) 5)) = some (streamOf (dataWith 5) 5) ∧
    ((streamOf (dataWith 5) 5)[w]?.any fun x =>
      (readStored ([[(w, 1)]].headD []) w (storeWord x)).isNone) = true := by decide +kernel
/-- An abandoned read of `address` on the cable, its unit held for another read meanwhile. -/
def abandonedRead (l : List SlotId) (jobs : List Job) : State :=
  { readingOn { unitUp with hold := some failureHold } .pass l jobs with
    grant := some { sectorGrantOf (.relay .pass) 0 with slots := l, abandoned := true }
    current := some ⟨0, 202, 9, 14, .read .held, none, false⟩ }
/-- Into slot 0, or a fallback: a job is made; the table is full; a sector job, and a track job, is found. -/
theorem witness_FailedReadMakesJob_abandoned : ∀ l ∈ [[], [(0 : SlotId)]], ∀ s : State,
    s = abandonedRead l [] →
    s.grant = some { sectorGrantOf (.relay .pass) 0 with slots := l, abandoned := true } ∧
    (∀ i ∈ l, (s.slot i).state = .filling ∧ (s.slot i).owner = some .relay) ∧ s.jobList = [] ∧
    (∀ i, (s.slot i).owner ≠ some (.job s.drawNumber)) ∧ s.emptyEntry ≠ none ∧
    s.sectorGrant (decide (l ≠ [])) = some 8 ∧ s.bankRetired 0 = false ∧ s.bankRetired 1 = false := by
  rintro l hl _ rfl
  revert l
  decide +kernel
theorem witness_FailedReadMakesJob_abandoned_refused : ∀ l ∈ [[], [(0 : SlotId)]], ∀ s : State,
    s = abandonedRead l (List.replicate 8 { sectorJob 1 [] with cyl := 7 }) →
    s.emptyEntry = none ∧ s.sectorJob address = none ∧ s.trackJob 0 202 9 = none ∧
    s.records.length < 128 := by
  rintro l hl _ rfl
  revert l
  decide +kernel
theorem witness_FailedReadMakesJob_abandoned_found : ∀ l ∈ [[], [(0 : SlotId)]],
    ∀ j ∈ [{ sectorJob 1 [] with state := .merging, foreground := true }, trackJob 1],
    (abandonedRead l [j]).NumbersSound ∧
    ((abandonedRead l [j]).sectorJob address = some j ∨
      (abandonedRead l [j]).sectorJob address = none ∧
        (abandonedRead l [j]).trackJob 0 202 9 = some j) := by
  unfold State.NumbersSound
  decide +kernel
/-- A CHECK_FIRST read that finds a sector job, with a claim and merging without one. -/
theorem witness_FailedReadMakesJob_found : ∀ size ∈ [0, 8], ∀ (j : Job) (s : State),
    j = { sectorJob 1 [] with state := .merging, reservation := size } →
    s = withJobs [j] (reading (some waitHold)) →
    s.NumbersSound ∧ s.sectorJob address = some j ∧ s.claim j = size ∧
    ∀ x ∈ s.jobList, x.foreground = false := by
  rintro n hn _ _ rfl rfl
  revert n
  unfold State.NumbersSound
  decide +kernel
/-- A sector job in any state that is offered a capture: with a claim of 1; without, and slot 1 to be
released, in a bank in service and in a retired one with nothing available; without, and slot 1 of credit
3. -/
theorem witness_FailedReadMakesJob_offered : ∀ x ∈ [JobState.queued, .positioning, .awaiting],
    ∀ p ∈ [(2, 2, false), (1, 2, false), (1, 2, true), (1, 3, false)], ∀ (j : Job) (s : State),
    j = { sectorJob 1 [1] with state := x, reservation := p.1 } →
    s = { readingOn cutThroughUnit .pass [0] [j] with
      banks := (Table.fill 2 (State.reset.banks.get 0)).set 1
        { State.reset.banks.get 0 with retired := p.2.2 }
      slots := (Table.fill 160 { Slot.free with state := .retired }).set 0 ((reading none).slot 0) |>.set 1
        { Slot.free with state := .held, owner := some (.job 1), credit := some p.2.1 } } →
    s.NumbersSound ∧ s.sectorJob address = some j ∧ s.claim j = p.1 - 1 ∧ s.releaseChoice j = some 1 ∧
    (s.slot 1).credit = some p.2.1 ∧ s.holding 1 ≤ j.reservation ∧ s.bankRetired (bankOf 1) = p.2.2 ∧
    s.available = 0 ∧ (s.slot 0).state = .filling ∧ (s.slot 0).owner = some .relay ∧
    ∀ k ∈ s.jobList, k.foreground = false ∧ 0 ∉ k.list := by
  rintro x hx p hp _ _ rfl rfl
  revert x p
  unfold State.NumbersSound
  decide +kernel
/-- One that finds a track job, without and with a CLEAN capture of the sector in slot 1. -/
theorem witness_FailedReadMakesJob_covered : ∀ c ∈ [none, some (1 : SlotId)], ∀ s : State,
    s = { withJobs [cleanTrackJob c] (reading (some waitHold)) with
      slots := (reading none).slots.set 1 ((cleanTrack (some 0)).slot 0) } →
    s.NumbersSound ∧ s.sectorJob address = none ∧ s.trackJob 0 202 9 = some (cleanTrackJob c) ∧
    (rowOf (cleanTrackJob c) 15).firstClean = c ∧ (∀ x ∈ s.jobList, x.foreground = false) ∧
    (readData 1 (beginCommand [] s)).1 = some (dataWith 5) := by
  rintro c hc _ rfl
  revert c
  unfold State.NumbersSound
  decide +kernel
/-- A background job for a CUT_THROUGH read and for a fallback; a job refused, the table full; an owned
read. -/
theorem witness_FailedReadMakesJob_background : ∀ l ∈ [[], [(0 : SlotId)]],
    ∀ s : State, s = readingOn cutThroughUnit .pass l [] →
    s.sectorGrant (decide (l ≠ [])) = some 8 ∧ (s.slot 0).state = .filling ∧
    (∀ i, (s.slot i).owner ≠ some (.job s.drawNumber)) ∧ s.emptyEntry ≠ none ∧
    s.sectorJob address = none ∧ s.trackJob 0 202 9 = none := by
  intro l hl s hs
  subst hs
  revert l
  decide +kernel
theorem witness_FailedReadMakesJob_refused : ∀ e ∈ [unitUp, cutThroughUnit], ∀ s : State,
    s = readingOn e .pass [0] (List.replicate 8 { sectorJob 1 [] with cyl := 7 }) →
    s.emptyEntry = none ∧ s.sectorJob address = none ∧ s.trackJob 0 202 9 = none ∧
    s.records.length < 128 := by
  intro e he s hs
  subst hs
  revert e
  decide +kernel
theorem witness_FailedReadMakesJob_owned : ∀ size ∈ [0, 8], ∀ s : State,
    s = readingOn cutThroughUnit .owned [0]
      [{ sectorJob 1 [] with state := .merging, reservation := size }] →
    s.NumbersSound ∧ s.sectorJob address = some { sectorJob 1 [] with state := .merging, reservation := size } ∧
    s.claim { sectorJob 1 [] with state := .merging, reservation := size } = size ∧
    (∀ x ∈ s.jobList, (0 : SlotId) ∉ x.list) ∧ (∀ x ∈ s.jobList, x.foreground = false) := by
  intro n hn s hs
  subst hs
  revert n
  unfold State.NumbersSound
  decide +kernel

/-- Job 1, its read of `address` on the cable into slot 1, its list holding slot 0. -/
def readingJob : Job := { sectorJob 1 [0] with state := .capturing, readCredit := 3 }
def jobReading : State :=
  withJobs [readingJob] { up unitUp with grant := some (sectorGrantOf (.job 1) 1) }

theorem witness_DamagedAttemptMerged : jobReading.bypassOpen = true ∧
    jobReading.grant = some (sectorGrantOf (.job 1) 1) ∧ jobReading.job 1 = some readingJob ∧
    readingJob.kind = .sector ∧ readingJob.list ≠ [] ∧ (jobReading.unit 0).geometry.present = true ∧
    (judge 202 9 15 (.complete (streamOf (dataWith 5) 6))).outcome = .dataCheck := by decide +kernel

/-- NO DATA; and a WRONG_HEADER whose count of 1 is below the threshold of 3. -/
theorem witness_DamagedAttemptMerged_lost : (judge 202 9 15 .noData).outcome = .noSync ∧
    (judge 202 9 14 (.complete (streamOf (dataWith 5) 5))).outcome = .wrongHeader ∧
    (jobReading.unit 0).countedTrack = none ∧ 1 < (jobReading.unit 0).geometry.escalation := by
  decide +kernel

/-- A CLEAN stream, and one whose first or last data word does not read out. -/
theorem witness_DamagedAttemptMerged_clean :
    (judge 202 9 15 (.complete (streamOf (dataWith 5) 5))).outcome = .clean ∧
    (deliveredWords (.complete (streamOf (dataWith 5) 5))).isSome = true ∧
    (∀ w ∈ [3, 258], 3 ≤ w ∧ w < 259) ∧ readingJob.list ≠ [] := by decide +kernel

/-- A CUT_THROUGH read of `address` on the cable into slot 0, its job with this reservation and list. -/
def offeredTo (size : Nat) (list : List SlotId) : Job :=
  { sectorJob 1 list with reservation := size, granted := size }
def offered (size : Nat) (list : List SlotId) : State :=
  { readingOn cutThroughUnit .owned [0] [offeredTo size list] with
    slots := list.foldl (fun t i => t.set i { Slot.free with state := .held, owner := some (.job 1) })
      (reading none).slots }

/-- A claim of 8; no claim, and slot 1 to be released; no claim, and nothing to release. -/
theorem witness_DamagedAttemptMerged_offered : ∀ p ∈ [(8, []), (1, [(1 : SlotId)]), (0, [])],
    (offered p.1 p.2).sectorJob address = some (offeredTo p.1 p.2) ∧
    (offered p.1 p.2).claim (offeredTo p.1 p.2) = p.1 - p.2.length ∧
    (∀ k, (offered p.1 p.2).bankRetired k = false) ∧ (offeredTo p.1 p.2).list = p.2 ∧
    (offeredTo p.1 p.2).pin = none ∧ (offered p.1 p.2).NumbersSound ∧ (offered p.1 p.2).SlotsSound ∧
    (offered p.1 p.2).ReservationsSound ∧ ∀ x ∈ (offered p.1 p.2).jobList, x.foreground = false := by
  intro p hp
  have owners : ∀ i, ((offered p.1 p.2).slot i).owner ∈ [none, some .relay, some (.job 1)] := by
    revert p
    decide +kernel
  have one : offeredTo p.1 p.2 ∈ (offered p.1 p.2).jobList := by
    revert p
    decide +kernel
  have fills : (offered p.1 p.2).fills .relay 0 := by
    revert p
    simp only [State.fills]
    decide +kernel
  refine ⟨?_, ?_, ?_, rfl, rfl, ?_, ⟨fun i => ⟨?_, fun n h => ?_⟩, ?_, ?_, ?_⟩, ?_, ?_⟩
  case refine_6 => exact ⟨_, one, by simpa [h, eq_comm, offeredTo, sectorJob, freshJob] using owners i⟩
  case refine_8 =>
    intro g h
    cases h
    exact ⟨by decide, by simpa [sectorGrantOf] using fills⟩
  all_goals
    clear owners one fills
    revert p
    try simp only [State.fills, State.NumbersSound, State.ReservationsSound]
    decide +kernel +revert

/-- A PASS write of `address` on the cable. -/
def writeGrant : Grant :=
  { sectorGrantOf (.relay .pass) 0 with op := .writeSector 9 15, slots := [] }
def writing : State :=
  { up unitUp with
    grant := some writeGrant, current := some ⟨0, 202, 9, 15, .write [] none, none, true⟩ }

theorem witness_WriteAnswered : writing.bypassOpen = true ∧ writing.grant = some writeGrant ∧
    writeGrant.op = .writeSector 9 15 ∧ writeGrant.abandoned = false ∧
    writing.current = some ⟨0, 202, 9, 15, .write [] none, none, true⟩ ∧
    ({ writing with grant := some { writeGrant with abandoned := true }, current := none }).grant =
      some { writeGrant with abandoned := true } := by decide

/-- A track job's READ TRACK on the cable. -/
def trackGrantOf : Grant :=
  { sectorGrantOf (.job 1) 0 with op := .readTrack 9, slots := [], nextMark := 24 }
def trackReading : State :=
  withJobs [{ trackJob 1 with state := .capturing }] { up unitUp with grant := some trackGrantOf }

theorem witness_RevolutionEnds : trackReading.bypassOpen = true ∧
    trackReading.grant = some trackGrantOf ∧ trackGrantOf.holder = .job 1 ∧
    trackGrantOf.op = .readTrack 9 ∧ trackGrantOf.abandoned = false ∧
    trackReading.job 1 = some { trackJob 1 with state := .capturing } ∧ (trackJob 1).kind = .track ∧
    (trackJob 1).revsDone + 1 < (trackJob 1).revsRequested ∧ SectorRow.empty ∈ (trackJob 1).rows ∧
    SectorRow.empty.superseded = false ∧ SectorRow.empty.firstClean = none ∧
    trackReading.bankRetired 0 = false := by decide +kernel

/-- A stream of sector 15 filed from its mark, a list with room and a full one; and one of another track. -/
theorem witness_RevolutionEnds_filing : ∀ s : State,
    s = { trackReading with grant := some { trackGrantOf with slots := [0], nextMark := 0 } } →
    (s.unit 0).geometry.present = true ∧ s.job 1 = some { trackJob 1 with state := .capturing } ∧
    (judgeTrack 202 9 0 24 (.complete (streamOf (dataWith 5) 6))).outcome = .dataCheck ∧
    (judgeTrack 202 9 0 24 (.complete (streamOf (dataWith 5) 6))).sector = 15 ∧
    (rowOf (trackJob 1) 15).list.length < (trackJob 1).revsRequested ∧
    (trackJob 1).revsRequested ≤ [(0 : SlotId), 1].length ∧
    (judgeTrack 202 8 0 24 (.complete (streamOf (dataWith 5) 6))).outcome = .wrongHeader ∧
    (({ s with slots := s.slots.set 0 { Slot.free with state := .filling, owner := some (.job 1) } } :
      State).slot 0).owner = some (.job 1) := by
  rintro _ rfl
  decide +kernel
/-- The last revolution: no capture at all, and two damaged ones of sector 15. -/
theorem witness_RevolutionEnds_final : ∀ l ∈ [[], [(0 : SlotId), 1]], ∀ j : Job,
    j = { trackJob 1 with
      state := .capturing, revsDone := 1
      rows := (trackJob 1).rows.set 15 { SectorRow.empty with list := l } } →
    (withJobs [j] trackReading).job 1 = some j ∧ trackGrantOf.slots.length ≤ trackGrantOf.nextMark ∧
    j.merges = [] ∧ (∀ r ∈ j.rows, r.outcome = none ∧ r.data = none) ∧ j.revsRequested ≤ j.revsDone + 1 ∧
    (∀ i ∈ (rowOf j 15).list, ((withJobs [j] trackReading).slot i).outcome ≠ some .clean) ∧
    (rowOf j 15).superseded = false ∧ (rowOf j 15).list.length = l.length := by
  intro l hl j hj
  subst hj
  revert l
  decide +kernel

/-- Two captures that agree in all 257 positions, with these data. -/
def agreed : RunningMerge :=
  { sector := 15, q := 5, t := 2,
    captures := List.replicate 2
      { credit := 3, values := (dataWith 5).map some ++ [some 5], sums := List.replicate 16 none } }

def mergingJob : Job := { sectorJob 1 [] with state := .merging, merges := [agreed] }

theorem witness_RecoveringVerdictEndsJob :
    ∀ s ∈ [withJobs [mergingJob] (up unitUp), withJobs [mergingJob] (stored .vote unitUp)],
    s.bypassOpen = true ∧ s.job 1 = some mergingJob ∧ mergingJob.kind = .sector ∧
    (mergingJob.merges.find? fun x => x.sector = 15) = some agreed ∧
    mergeVerdictOf agreed.q agreed.t agreed.captures = (.byVote, dataWith 5) ∧
    recovering .byVote = true ∧ s.bankRetired 0 = false ∧
    (s.store.length < 64 ∨ ∃ e ∈ s.store, e.key = address) ∧
    (∀ e ∈ s.store, e.key = address → e.origin ≠ .redirectedWrite) := by
  decide +kernel

/-- The controller held for the job: for a sector job, and for a track job's sector at its last verdict. -/
theorem witness_RecoveringVerdictEndsJob_held :
    ∀ j ∈ [{ mergingJob with foreground := true },
      { trackJob 1 with state := .merging, foreground := true, merges := [agreed] }], ∀ s : State,
    s = withJobs [j] { up { unitUp with hold := some failureHold } with
      current := some ⟨0, 202, 9, 15, .read .held, none, false⟩ } →
    s.job 1 = some j ∧ (j.merges.find? fun x => x.sector = 15) = some agreed ∧
    (j.merges.filter fun x => x.sector ≠ 15) = [] ∧ recovering .byVote = true := by
  intro j hj s hs
  subst hs
  revert j
  decide +kernel

/-- Two captures of which nothing is left. -/
def lost : RunningMerge :=
  { agreed with
    captures := List.replicate 2
      { credit := 3, values := List.replicate 257 none, sums := List.replicate 16 none } }

def lostJob : Job := { mergingJob with merges := [lost] }

/-- A verdict that does not recover: the step's next attempt, the next step, the plan exhausted with a capture
joined since and without, a restart, and a final merge. -/
theorem witness_RecoveringVerdictEndsJob_goesOn : ∀ j ∈ [{ lostJob with attempt := 1 },
      { lostJob with attempt := 2 }, { lostJob with stepIndex := 8, attempt := 9, list := [0, 1], joined := true },
      { lostJob with stepIndex := 8, attempt := 9 }, { lostJob with restarted := true },
      { lostJob with finalMerge := true }],
    (withJobs [j] (up unitUp)).job 1 = some j ∧ (j.merges.find? fun x => x.sector = 15) = some lost ∧
    recovering (mergeVerdictOf lost.q lost.t lost.captures).1 = false ∧
    ((withJobs [j] (up unitUp)).plans.get j.plan)[j.stepIndex - 1]?.isSome = true := by
  decide +kernel

/-- A final merge of a held sector job that does not recover: with no capture, and with one read back. -/
theorem witness_RecoveringVerdictEndsJob_fallback : ∀ l ∈ [[], [(0 : SlotId)]], ∀ (j : Job) (s : State),
    j = { lostJob with finalMerge := true, foreground := true, list := l } →
    s = withJobs [j] { up { unitUp with hold := some failureHold } with
      current := some ⟨0, 202, 9, 15, .read .held, none, false⟩ } →
    s.job 1 = some j ∧ fallbackCapture j = l.head? ∧
    ∀ i ∈ l, ((readWhole i (beginCommand [] s)).1).isSome = true := by
  intro l hl j s hj hs
  subst hj
  subst hs
  revert l
  decide +kernel
/-- The last verdict of a held track job leaves its sector without data: no capture filed, one that reads out,
one that does not. -/
theorem witness_RecoveringVerdictEndsJob_heldTrack : ∀ x ∈ [((none : Option SlotId), false), (some 0, true),
      (some 1, false)], ∀ (j : Job) (s : State),
    j = { trackJob 1 with
      state := .merging, foreground := true, merges := [lost]
      rows := (trackJob 1).rows.set 15 { SectorRow.empty with firstFiled := x.1 } } →
    s = withJobs [j] { up { unitUp with hold := some waitHold } with
      current := some ⟨0, 202, 9, 15, .read .held, none, false⟩
      slots := (Table.fill 160 Slot.free).set 1 { Slot.free with words := [0] } } →
    s.job 1 = some j ∧ (j.merges.find? fun x => x.sector = 15) = some lost ∧
    recovering (mergeVerdictOf lost.q lost.t lost.captures).1 = false ∧
    (rowOf j 15).firstFiled = x.1 ∧
    (x.1.bind fun i => (readWhole i (beginCommand [] s)).1).isSome = x.2 := by
  intro x hx j s hj hs
  subst hj
  subst hs
  revert x
  decide +kernel
/-- The last verdict of a track job, its sector kept: over an empty store, and over a redirected entry. -/
theorem witness_RecoveringVerdictEndsJob_store : ∀ l ∈ [[], [entryOf address .redirectedWrite]],
    ∀ (j : Job) (s : State),
    j = { trackJob 1 with state := .merging, merges := [agreed] } →
    s = { withJobs [j] (up unitUp) with store := l } →
    s.job 1 = some j ∧ (mergeVerdictOf agreed.q agreed.t agreed.captures).1 = .byVote ∧
    s.StoreSound ∧ s.store.length + 24 ≤ 64 ∧ s.records.length < 128 ∧
    ∀ e ∈ s.store, e.key = ⟨j.unit, j.cyl, j.head, 15⟩ ∧ e.origin = .redirectedWrite := by
  intro l hl j s hj hs
  subst hj
  subst hs
  unfold State.StoreSound
  revert l
  decide +kernel

/-- A track job's merge, the last one and one of two. -/
theorem witness_RecoveringVerdictEndsJob_track : ∀ more ∈ [[], [{ agreed with sector := 3 }]], ∀ j : Job,
    j = { trackJob 1 with state := .merging, merges := agreed :: more } →
    (withJobs [j] (up unitUp)).job 1 = some j ∧ (j.merges.find? fun x => x.sector = 15) = some agreed ∧
    15 < j.rows.length ∧ (j.merges.filter fun x => x.sector ≠ 15) = more ∧ j.foreground = false := by
  intro more hm j hj
  subst hj
  revert more
  decide +kernel

theorem witness_StatusReported : (up unitUp).bypassOpen = true := by decide
/-- Each waiting reason: SLOT before READY, READY before CABLE, CABLE by a motion and by an owner, and none
while the job's own seek is under way. -/
theorem witness_StatusReported_reasons : (∀ j ∈ [sectorJob 1 []], j.asks = true ∧
      j.slotsMissing = true ∧ { j with filling := [0] }.slotsMissing = false) ∧
    (∀ e ∈ [{ unitUp with motion := some seeking }, { unitUp with owner := some 2 }], ∀ j ∈ [sectorJob 1 []],
      (up e).seeksOwn j = false ∧ (up e).unitClaimed 0 = false ∧ ((up e).unit 0).ready = true ∧
      (((up e).unit 0).motion ≠ none ∨ ((up e).unit 0).owner ≠ none)) ∧
    (up { unitUp with motion := some { seeking with issuer := .job 1 } }).seeksOwn (sectorJob 1 []) = true ∧
    (waitingFor (.read .pass)).unitClaimed 0 = true ∧ ((up UnitEntry.reset).unit 0).ready = false := by
  decide +kernel

/-- `unitUp` with a sector job on it. -/
def busy : State := withJobs [sectorJob 1 []] (up unitUp)

/-- A field out of range; a unit with a job; a unit without, the fields at both ends of their ranges. -/
theorem witness_GeometryLoaded : ¬((1001 : Word).toNat ≤ 1000) ∧ ¬(8 ≤ (7 : Word).toNat) ∧
    (busy.bypassOpen = true ∧ ∃ j ∈ (busy.taken []).jobList, j.unit = 0) ∧
    ((up unitUp).bypassOpen = true ∧ (∀ j ∈ ((up unitUp).taken []).jobList, j.unit ≠ 0) ∧
      (((up unitUp).taken []).unit 0).seekPending = false) ∧
    (0 : Word).toNat = (0 : UnitNo).val ∧ (3 : Word).toNat = (3 : Fin 4).val ∧
    (1 ≤ (1 : Word).toNat ∧ (1000 : Word).toNat ≤ 1000 ∧ (16 : Word).toNat ≤ 16 ∧ 8 ≤ (8 : Word).toNat ∧
      (24 : Word).toNat ≤ 24) := by
  refine ⟨by decide, by decide, by decide, by decide, by decide, by decide, by simp⟩
/-- A plan number, a length and a code out of range; a plan in use; a plan of one step not in use. -/
theorem witness_PlanLoaded : 3 < (4 : Word).toNat ∧ (0 : Word).toNat = 0 ∧ 12 < (13 : Word).toNat ∧
    2 < (stepWordsAt [⟨3, 0, 0, 1, 3⟩] 0).strobe.toNat ∧ 2 < (stepWordsAt [⟨0, 0, 3, 1, 3⟩] 0).reposition.toNat ∧
    givenStep (stepWordsAt [⟨2, 1, 2, 5, 0⟩] 0) = ⟨.late, .forward, .zero, 4, 1⟩ ∧
    (∀ k, k < (12 : Word).toNat → (stepWordsAt [] k).strobe.toNat ≤ 2 ∧
      (stepWordsAt [] k).offset.toNat ≤ 2 ∧ (stepWordsAt [] k).reposition.toNat ≤ 2) ∧
    (0 : Word).toNat = (0 : Fin 4).val ∧
    (busy.bypassOpen = true ∧ ∃ j ∈ (busy.taken []).jobList, j.plan = 0) ∧
    ((up unitUp).bypassOpen = true ∧ ∀ j ∈ ((up unitUp).taken []).jobList, j.plan ≠ 0) := by
  decide +kernel
/-- PASS to REDIRECT; BLOCK to PASS over a redirected entry; BLOCK to REDIRECT over it. -/
theorem witness_PolicySet : 3 < (4 : Word).toNat ∧ 2 < (3 : Word).toNat ∧
    policyField 0 = some .pass ∧ policyField 2 = some .redirect ∧
    (Open (up unitUp) ∧ (((up unitUp).taken []).unit 0).policy = .pass) ∧
    ∀ s, s = stored .redirectedWrite { unitUp with policy := .block } →
      Open s ∧ ((s.taken []).unit 0).policy = .block ∧
        ∃ e ∈ (s.taken []).store, e.origin = .redirectedWrite ∧ e.key.unit = 0 := by
  refine ⟨by decide, by decide, by decide, by decide, by decide, ?_⟩
  rintro _ rfl
  decide +kernel
theorem witness_LimitsSet : (up unitUp).bypassOpen = true := by decide

/-- A unit in range whose geometry holds `address`, as the requests on jobs take it. -/
abbrev AskedHere (s : State) : Prop :=
  Open s ∧ ((s.taken []).unit 0).geometry.present = true ∧
    202 < ((s.taken []).unit 0).geometry.cylinders ∧ 9 < ((s.taken []).unit 0).geometry.heads ∧
    15 < ((s.taken []).unit 0).geometry.sectors

/-- The job table full of jobs on other tracks. -/
def fullTable : State := withJobs (List.replicate 8 { sectorJob 1 [] with cyl := 7 }) (up unitUp)

/-- A unit above 3; outside the geometry; covered; owned; the table full; refused; granted. -/
theorem witness_SectorRecoveryAsked : 3 < (4 : Word).toNat ∧
    (AskedHere (up unitUp) ∧ ¬(24 < (((up unitUp).taken []).unit 0).geometry.sectors)) ∧
    (AskedHere (withJobs [trackJob 1] (up unitUp)) ∧
      ((withJobs [trackJob 1] (up unitUp)).taken []).trackJob 0 202 9 ≠ none) ∧
    (AskedHere busy ∧ (busy.taken []).trackJob 0 202 9 = none ∧
      (busy.taken []).sectorJob address = some (sectorJob 1 [])) ∧
    (AskedHere fullTable ∧ (fullTable.taken []).trackJob 0 202 9 = none ∧
      (fullTable.taken []).sectorJob address = none ∧ (fullTable.taken []).emptyEntry = none) ∧
    (AskedHere (allHeld (up unitUp)) ∧ ((allHeld (up unitUp)).taken []).sectorJob address = none ∧
      ((allHeld (up unitUp)).taken []).emptyEntry ≠ none ∧
      ((allHeld (up unitUp)).taken []).sectorGrant false = none) ∧
    (((up unitUp).taken []).trackJob 0 202 9 = none ∧ ((up unitUp).taken []).sectorJob address = none ∧
      ((up unitUp).taken []).emptyEntry ≠ none ∧
      ((up unitUp).taken []).sectorGrant false = some 8) := by decide +kernel
/-- The table full of jobs elsewhere; no slot to be had; a WRONG_HEADER at a threshold of 1, refused and
granted. -/
theorem witness_TrackRecoveryAsked_refused : (AskedHere fullTable ∧ (fullTable.taken []).trackJob 0 202 9 = none ∧
      (fullTable.taken []).sectorJobsOn 0 202 9 = [] ∧ (fullTable.taken []).emptyEntry = none) ∧
    (AskedHere (allHeld (up unitUp)) ∧ ((allHeld (up unitUp)).taken []).emptyEntry ≠ none ∧
      ((allHeld (up unitUp)).taken []).trackGrant 0 (max 2 (min 8 (2 : Word).toNat)) [] = none) ∧
    ∀ e, e = { unitUp with geometry := { unitUp.geometry with escalation := 1 } } →
      (up e).NumbersSound ∧ ((up e).unit 0).countedTrack = none ∧ (up e).trackJob 0 202 9 = none ∧
      (allHeld (up e)).trackGrant 0 4 [] = none ∧ (up e).trackGrant 0 4 [] = some 96 ∧
      (withJobs [sectorJob 1 []] (up e)).sectorJobsOn 0 202 9 = [sectorJob 1 []] ∧
      (withJobs [sectorJob 1 []] (up e)).trackGrant 0 4 [sectorJob 1 []] = some 96 := by
  unfold State.NumbersSound
  refine ⟨by decide +kernel, by decide +kernel, ?_⟩
  rintro _ rfl
  decide +kernel
/-- A WRONG_HEADER at the threshold: of a foreground job's own read, held by the controller, and of a pass
read waiting for its check; one that the table has no room for; and one of a track that has its job. -/
theorem witness_TrackRecoveryAsked_stream : ∀ e, e = { unitUp with
      hold := some failureHold, geometry := { unitUp.geometry with escalation := 1 } } →
    (judge 202 9 15 (.complete ([0o312, 0o456, 0o770] ++ dataWith 5 ++ [5]))).outcome = .wrongHeader ∧
    (e.countedTrack = none ∧ 1 ≤ e.geometry.escalation ∧ 1 ≤ e.geometry.sectors) ∧
    (∀ j, j = { sectorJob 1 [] with state := .capturing, foreground := true } →
      ∀ s, s = { readingOn e .pass [] [j] with
          grant := some { sectorGrantOf (.job 1) 0 with slots := [] }
          current := some ⟨0, 202, 9, 15, .read .held, none, false⟩ } →
        s.job 1 = some j ∧ s.sectorJobsOn 0 202 9 = [j] ∧ s.trackJob 0 202 9 = none ∧ s.trackGrant 0 4 [j] = some 96) ∧
    (∀ s, s = readingOn e .pass [0] [] → s.trackJob 0 202 9 = none ∧ s.emptyEntry ≠ none ∧
      s.jobList = [] ∧ (s.unit 0).geometry.mode = .checkFirst ∧
      (releaseSlots [0] s).trackGrant 0 4 [] = some 96) ∧
    (readingOn e .pass [] (List.replicate 8 { sectorJob 1 [] with cyl := 7 })).emptyEntry = none ∧
    (readingOn e .pass [] [trackJob 1]).trackJob 0 202 9 ≠ none := by
  rintro _ rfl
  refine ⟨by decide +kernel, by decide, ?_, ?_, by decide, by decide⟩
  · rintro _ rfl _ rfl
    decide +kernel
  · rintro _ rfl
    decide +kernel
/-- A unit above 3; one not present; a cylinder and a head at the geometry's ends. -/
theorem witness_TrackRecoveryAsked_badField : 3 < (4 : Word).toNat ∧ (3 : Word).toNat = (3 : UnitNo).val ∧
    (((up unitUp).taken []).unit 3).geometry.present = false ∧
    (((up unitUp).taken []).unit 0).geometry.cylinders ≤ (1000 : Word).toNat ∧
    (((up unitUp).taken []).unit 0).geometry.heads ≤ (16 : Word).toNat := by decide
/-- Covered; asked with an empty entry; asked with a sector job on the track. -/
theorem witness_TrackRecoveryAsked : (AskedHere (withJobs [trackJob 1] (up unitUp)) ∧
      ((withJobs [trackJob 1] (up unitUp)).taken []).trackJob 0 202 9 ≠ none) ∧
    (AskedHere (up unitUp) ∧ ((up unitUp).taken []).trackJob 0 202 9 = none ∧
      ((up unitUp).taken []).emptyEntry ≠ none ∧
      ((up unitUp).taken []).trackGrant 0 (max 2 (min 8 (8 : Word).toNat))
        (((up unitUp).taken []).sectorJobsOn 0 202 9) = some 144) ∧
    (AskedHere busy ∧ (busy.taken []).trackJob 0 202 9 = none ∧
      (busy.taken []).sectorJobsOn 0 202 9 ≠ [] ∧
      (busy.taken []).trackGrant 0 (max 2 (min 8 (2 : Word).toNat))
        ((busy.taken []).sectorJobsOn 0 202 9) = some 48) := by decide +kernel
theorem witness_JobCancelled : (0 : Word).toNat = 0 ∧ 255 < (256 : Word).toNat ∧
    (255 : Word).toNat ≤ 255 ∧ busy.bypassOpen = true ∧ (busy.taken []).job 255 = none ∧
    (busy.taken []).job 1 = some (sectorJob 1 []) ∧
    (trackReading.taken []).job 1 = some { trackJob 1 with state := .capturing } := by decide +kernel
/-- Reads of a job on the cable, abandoned. -/
theorem witness_JobCancelled_abandoned : ∀ g ∈ [{ sectorGrantOf (.job 1) 0 with abandoned := true },
      { trackGrantOf with abandoned := true }],
    ({ up unitUp with grant := some g }).bypassOpen = true ∧ g.holder = .job 1 ∧ g.abandoned = true ∧
    ((∃ head sector, g.op = .readSector head sector) ∨ ∃ head, g.op = .readTrack head) := by
  intro g hg
  simp only [List.mem_cons, List.not_mem_nil, or_false] at hg
  rcases hg with rfl | rfl
  · exact ⟨by decide, rfl, rfl, .inl ⟨9, 15, rfl⟩⟩
  · exact ⟨by decide, rfl, rfl, .inr ⟨9, rfl⟩⟩
/-- R14, R89, R90: a job cancelled while its read is on the cable leaves the read abandoned, and its stream
ends the grant alone. -/
theorem test_cancelled_read : ∀ s : State,
    s = after (.cancelJob 1 1) (withJobs [{ sectorJob 1 [] with state := .capturing }]
      { up unitUp with grant := some (sectorGrantOf (.job 1) 0) }) →
    s.grant = some { sectorGrantOf (.job 1) 0 with abandoned := true } ∧ s.records.length = 1 ∧
    after (.streamChecked .noData []) s = { s with grant := none, out := [] } := by
  rintro _ rfl
  decide +kernel
theorem witness_RecordsTaken : (up unitUp).bypassOpen = true := by decide
theorem witness_DirectoryGiven : 63 < (64 : Word).toNat ∧ (63 : Word).toNat ≤ 63 ∧
    (stored .vote unitUp).bypassOpen = true ∧
    ((stored .vote unitUp).taken []).store[(0 : Word).toNat + 0]? = some (entryOf address .vote) := by
  decide +kernel
/-- A field out of range; no entry; an entry; an entry locked under REDIRECT. -/
theorem witness_EntryPinnedOrDropped : ¬((16 : Word).toNat ≤ 15) ∧ ¬((24 : Word).toNat ≤ 23) ∧
    ((0 : Word).toNat ≤ 3 ∧ (202 : Word).toNat ≤ 1022 ∧ (9 : Word).toNat ≤ 15 ∧ (15 : Word).toNat ≤ 23) ∧
    ((up unitUp).bypassOpen = true ∧ ∀ e ∈ ((up unitUp).taken []).store, e.key ≠ address) ∧
    ∀ p ∈ [Policy.block, .redirect],
      (stored .redirectedWrite { unitUp with policy := p }).bypassOpen = true ∧
      (((stored .redirectedWrite { unitUp with policy := p }).taken []).store.find? fun x =>
        x.key = address) = some (entryOf address .redirectedWrite) ∧
      (((stored .redirectedWrite { unitUp with policy := p }).taken []).unit 0).policy = p := by
  decide +kernel
theorem witness_EntriesAdopted : (stored .vote unitUp).bypassOpen = true ∧ 3 < (4 : Word).toNat ∧
    (3 : Word).toNat = (3 : UnitNo).val := by decide
/-- Every scope, and values on both sides; two jobs to be recorded. -/
theorem witness_Cleared : busy.bypassOpen = true ∧ (1 : Word).toNat = 1 ∧ (2 : Word).toNat = 2 ∧
    (3 : Word).toNat = 3 ∧ (4 : Word).toNat = 4 ∧ (5 : Word).toNat = 5 ∧ (0 : Word).toNat = 0 ∧
    5 < (6 : Word).toNat ∧ ∀ s : State,
      s = withJobs [{ trackJob 2 with cyl := 7 }, sectorJob 1 []] (up unitUp) →
      s.bypassOpen = true ∧ (s.taken []).NumbersSound ∧ (s.taken []).jobList ≠ [] ∧
      (s.taken []).records.length + (s.taken []).jobList.length ≤ 128 := by
  refine ⟨by decide, by decide, by decide, by decide, by decide, by decide, by decide, by decide, ?_⟩
  rintro _ rfl
  unfold State.NumbersSound
  decide +kernel
/-- A wrong checkword; a wrong marker; an unknown code. -/
theorem witness_RequestRefused : (up unitUp).bypassOpen = true ∧ wordSum (dataWith 5) ≠ 6 ∧
    (wordSum (dataWith 5) = 5 ∧
      ((dataWith 5).getD 1 0).toNat + ((dataWith 5).getD 0 0).toNat ≠ 4095) ∧
    (wordSum [16, 0o7757] = 0 ∧ (0o7757 : Word).toNat + (16 : Word).toNat = 4095 ∧
      15 < (16 : Word).toNat) := by
  decide +kernel
theorem witness_MaintenanceWriteIsRequest : Open upMaint ∧
    ((upMaint.taken []).unit (upMaint.taken []).controllerUnit).controllerCyl = some 1023 ∧
    (Instr.clear 7 5).wellFormed = true ∧ requestOf (.clear 7 5) = some (15, 7, [5]) := by decide

/-- A dropout, a lost header, another header, a bad checkword, a bad header sum and a clean stream; in a READ
TRACK a slip from mark 0 to sector 15, and a header of no sector of this track. -/
theorem witness_CheckOutcomeOrder : ∀ l : List Word, l = streamOf (dataWith 5) 5 →
    lossWord (.clockLost 2 l) = some 2 ∧ lossWord (.clockLost 3 l) = some 3 ∧
    deliveredWords .noData = none ∧ deliveredWords (.clockLost 3 l) = some l ∧ headerGood l = true ∧
    headerNames l = (202, 9, 15) ∧
    headerGood (l.set 2 0) = false ∧ checkwordOf l = 5 ∧ wordSum (dataOf l) = 5 ∧
    checkwordOf (l.set 259 0o7777) = 0o7777 ∧ 0 < 24 ∧ 15 < 24 ∧
    ∀ n, n < 15 → headerNames l ≠ (202, 9, n) := by
  rintro _ rfl
  decide +kernel
theorem witness_RecoveredDataSumsToCheckword :
    mergeVerdictOf agreed.q agreed.t agreed.captures = (.byVote, dataWith 5) ∧
    ∀ x ∈ agreed.captures, x.values.getD 256 none ≠ some 0o7777 := by decide +kernel
/-- A capture of credit 1 with this at position 0, this at position 1, 0000 at the others, and this
checkword. -/
def shown (v w check : Option Word) : MergeCapture :=
  { credit := 1, values := [v, w] ++ List.replicate 254 (some 0) ++ [check]
    sums := List.replicate 16 (some 0) }
/-- A list of captures for each of the verdict's clauses in turn, the conditions of positions 0 and 256 and
the verdict (R112 to R118); the ways of fill with f 0 and not 0, void and not. -/
theorem witness_RecoveredDataSumsToCheckword_cases : ∀ x ∈
    [([shown (some 5) (some 0) none], Condition.decided 5, Condition.void, Verdict.unverified),
      ([shown (some 5) (some 0) (some 6)], .decided 5, .decided 6, .conflict),
      ([shown (some 5) (some 0) (some 5)], .decided 5, .decided 5, .byVote),
      ([shown (some 5) (some 0) (some 7), shown (some 7) (some 0) (some 7), shown (some 5) (some 0) none],
        .undecided [5, 7], .decided 7, .byTrial),
      ([shown (some 0) (some 0) (some 0), shown (some 0o7777) (some 0) none, shown (some 0) (some 0) none],
        .undecided [0, 0o7777], .decided 0, .ambiguous),
      ([shown (some 5) (some 1) (some 4), shown (some 7) (some 2) none, shown (some 6) (some 2) none],
        .undecided [5, 7, 6], .decided 4, .unresolved),
      ([shown (some 5) (some 1) (some 4), shown (some 7) (some 2) none], .undecided [5, 7], .decided 4,
        .unresolved),
      ([shown none (some 0) (some 4)], .void, .decided 4, .byFill),
      ([shown none (some 0) (some 0)], .void, .decided 0, .ambiguous),
      ([shown (some 5) (some 0) (some 6), shown (some 7) (some 0) none, shown (some 6) (some 0) none],
        .undecided [5, 7, 6], .decided 6, .byFill),
      ([shown (some 5) (some 0) (some 6), shown (some 7) (some 0) none], .undecided [5, 7], .decided 6, .conflict),
      ([shown (some 0) (some 0) (some 0), shown (some 0o7777) (some 0) none], .undecided [0, 0o7777], .decided 0,
        .ambiguous)],
    conditionOf 5 (ranked x.1 0) = x.2.1 ∧ conditionOf 5 (ranked x.1 256) = x.2.2.1 ∧
    (mergeVerdictOf 5 2 x.1).1 = x.2.2.2 := by decide +kernel
/-- The worked tallies of 7.3, Q 5: positions 18 and 20 undecided, 21 decided, and C 3021 with 7777 erased. -/
theorem test_worked_tallies : ∀ column : List (Option Word) → List MergeCapture,
    (column = fun l => (l.zip [3, 2, 2, 1]).map fun x =>
      { credit := x.2, values := [x.1], sums := [] }) →
    ranked (column [some 0o1200, some 0o1300, some 0o1300, some 0o1200]) 0 = [(0o1200, 4), (0o1300, 4)] ∧
    conditionOf 5 (ranked (column [none, some 0o2525, some 0o2525, some 0o2526]) 0) =
      .undecided [0o2525, 0o2526] ∧
    conditionOf 5 (ranked (column [none, some 0o6203, none, none]) 0) = .decided 0o6203 ∧
    conditionOf 5 (ranked (column [some 0o3021, some 0o3021, none, some 0o3022]) 0) = .decided 0o3021 := by
  rintro _ rfl
  decide +kernel

/-- A command waits at an opened unit whose store holds a redirected entry. -/
def waiting (c : Instr) : State :=
  { stored .redirectedWrite { unitUp with policy := .redirect } with pending := [c] }

theorem witness_StepKeepsStoreAndRecords : (waiting (.grant [])).StoreSound ∧
    (waiting (.grant [])).RecordsSound := by
  unfold State.StoreSound State.RecordsSound
  decide +kernel
theorem witness_StepKeepsRanges : (waiting (.grant [])).InRange := by
  unfold State.InRange UnitEntry.InRange Counters.InRange Geometry.InRange Hold.InRange PlanStep.InRange
  decide +kernel
/-- The controller held for a sector job, a grant waiting. -/
def heldWaiting : State := { heldFor [] with pending := [.grant []] }

theorem witness_StepKeepsJobNumbers : heldWaiting.NumbersSound ∧ heldWaiting.OwnersSound ∧
    heldWaiting.RelaySound := by
  unfold State.NumbersSound State.OwnersSound State.RelaySound State.HoldsSound State.ForegroundSound
    State.CableSound State.SeeksSound
  exact ⟨by decide +kernel, by decide +kernel, by decide +kernel, by decide +kernel, by decide +kernel,
    by decide +kernel⟩
theorem witness_StepKeepsBanks : heldWaiting.BanksSound ∧ heldWaiting.NumbersSound ∧
    heldWaiting.MergesSound ∧ heldWaiting.SlotsSound ∧ heldWaiting.ReservationsSound := by
  unfold State.BanksSound State.NumbersSound State.MergesSound State.SlotsSound State.ReservationsSound State.fills
  have free : ∀ i, (heldWaiting.slot i).owner = none ∧ (heldWaiting.slot i).state = .free := by
    decide +kernel
  refine ⟨by decide +kernel, by decide +kernel, by decide +kernel,
    ⟨?_, by decide +kernel, ?_, by decide +kernel⟩, by decide +kernel⟩
  · exact fun i => ⟨by simp [free i], fun n h => by rw [(free i).1] at h; cases h⟩
  · intro g h
    cases h
/-- Two jobs in the grant order, of one reservation of 8 each, short of what they were granted. -/
theorem witness_StepKeepsBanks_order : ∀ s : State,
    s = withJobs [{ sectorJob 1 [] with granted := 9 }, { sectorJob 2 [] with granted := 9, cyl := 7 }]
      (up unitUp) →
    s.NumbersSound ∧
    s.grantOrder = [] ++ { sectorJob 1 [] with granted := 9 } ::
      [{ sectorJob 2 [] with granted := 9, cyl := 7 }] ∧
    s.anyShortened = true ∧ ∀ z ∈ s.jobList, s.holding z.number ≤ z.reservation := by
  rintro _ rfl
  unfold State.NumbersSound
  decide +kernel
theorem witness_StepKeepsGuardedPacks : (waiting (.grant [])).WritesSound ∧
    (waiting (.grant [])).RedirectsSound ∧ (waiting (.grant [])).bypassOpen = true ∧
    (waiting (.grant [])).pending ≠ [] := by
  refine ⟨fun op h => ?_, ?_, by decide, by decide⟩
  · cases h
  · unfold State.RedirectsSound
    decide +kernel
/-- A grant, and a redirected write whose first word is the code of DROP ENTRY. -/
theorem witness_RedirectedEntriesSurvive :
    (∀ c ∈ [Instr.grant [], .writeSector 9 15 (dataWith 13) (some 13)], c.wellFormed = true ∧
      ofPower c = false ∧ dropRequest (waiting c) c = false ∧ (waiting c).pending.head? = some c ∧
      (waiting c).store = [entryOf address .redirectedWrite] ∧ (waiting c).StoreSound ∧
      (waiting c).RedirectsSound) ∧
    wordSum (dataWith 13) = 13 ∧ ∀ c, (waiting c).WritesSound := by
  refine ⟨?_, by decide +kernel, fun c _ h => ?_⟩
  · unfold State.StoreSound State.RedirectsSound
    decide +kernel
  · cases h
/-- A fall of READY advances the generation of its unit. -/
theorem witness_GenerationAdvancesOnlyOnFall : ∃ t : State,
    exec (.readyFall 0 []) (up unitUp) = .next t ∧ (t.unit 0).generation ≠ ((up unitUp).unit 0).generation :=
  ⟨_, rfl, by decide +kernel⟩

end Sys2Proof.Tests
end

section
/-! SUPPORT. Sums of words (R3), the segments of a data field (R5), and what the check unit finds (R8, R11). -/

namespace Sys2Proof.Machine

/-! ### Sums (R3) -/

theorem wordTotal_eq_sum (l : List Word) : wordTotal l = (l.map BitVec.toNat).sum := by
  rw [wordTotal, List.sum_eq_foldl, List.foldl_map]

theorem wordTotal_append (l m : List Word) : wordTotal (l ++ m) = wordTotal l + wordTotal m := by
  simp [wordTotal_eq_sum]

theorem wordSum_toNat (l : List Word) : (wordSum l).toNat = wordTotal l % 4095 := by
  have h : wordTotal l % 4095 < 4095 := Nat.mod_lt _ (by decide)
  simp only [wordSum, BitVec.toNat_ofNat]
  omega

/-- A sum is a remainder on division by 4095, so it never reaches 7777. -/
theorem wordSum_ne_minusZero (l : List Word) : wordSum l ≠ Config.minusZero := by
  intro h
  have hlt : wordTotal l % 4095 < 4095 := Nat.mod_lt _ (by decide)
  have hval : wordTotal l % 4095 = 4095 := by
    rw [← wordSum_toNat, h]
    rfl
  omega

/-- Sums are told by their totals modulo 4095. -/
theorem wordSum_congr {l m : List Word} (h : wordTotal l % 4095 = wordTotal m % 4095) :
    wordSum l = wordSum m := by
  rw [wordSum, wordSum, h]

/-- A word of 7777 counts as 0000. -/
theorem wordTotal_map_zeroed (l : List Word) :
    wordTotal (l.map fun w => if w = 0o7777 then 0 else w) % 4095 = wordTotal l % 4095 := by
  simp only [wordTotal_eq_sum]
  induction l with
  | nil => rfl
  | cons w l ih =>
    have hw : (if w = 0o7777 then (0 : Word) else w).toNat % 4095 = w.toNat % 4095 := by
      split
      · subst_vars
        rfl
      · rfl
    rw [List.map_cons, List.map_cons, List.map_cons, List.sum_cons, List.sum_cons, Nat.add_mod, hw, ih,
      ← Nat.add_mod]

/-- Summing the sums of the parts sums the whole. -/
theorem wordSum_map_wordSum (parts : List (List Word)) :
    wordSum (parts.map wordSum) = wordSum parts.flatten := by
  refine wordSum_congr ?_
  induction parts with
  | nil => rfl
  | cons p ps ih =>
    have hp : wordTotal [wordSum p] % 4095 = wordTotal p % 4095 := by
      simp [wordTotal, wordSum_toNat]
    rw [List.map_cons, ← List.singleton_append, List.flatten_cons, wordTotal_append, wordTotal_append,
      Nat.add_mod, hp, ih, ← Nat.add_mod]

/-- Settles O50: a sum is a total modulo 4095, which 7777 leaves as it was and never comes to. -/
theorem sumOfWords : Obligations.SumOfWords := by
  intro l
  refine ⟨wordSum_ne_minusZero l, wordSum_congr (wordTotal_map_zeroed l), ?_⟩
  rw [wordSum_toNat, wordTotal_eq_sum]

/-! ### Segments (R5) -/

/-- Segment `n` of a stream's data field, cut from the stream. -/
theorem segmentOf_dataOf (words : List Word) {n : Nat} (h : n < 16) :
    segmentOf n (dataOf words) = (words.drop (16 * n + 3)).take 16 := by
  rw [segmentOf, dataOf, List.drop_take, List.take_take, List.drop_drop, Nat.add_comm 3]
  congr 1
  omega

/-- The first `n` segments make up the first `16 * n` words. -/
theorem flatten_segmentOf (n : Nat) (data : List Word) :
    ((List.range n).map fun k => segmentOf k data).flatten = data.take (16 * n) := by
  induction n with
  | zero => simp
  | succ n ih =>
    rw [List.range_succ, List.map_append, List.flatten_append, ih, Nat.mul_succ, List.take_add]
    simp [segmentOf]

theorem segmentSums_whole (words : List Word) : segmentSums (dataOf words) none =
    (List.range 16).map fun n => some (wordSum ((words.drop (16 * n + 3)).take 16)) := by
  refine List.map_congr_left fun n hn => ?_
  rw [← segmentOf_dataOf words (List.mem_range.1 hn)]

/-- The 16 segment sums together sum to the data sum. -/
theorem wordSum_segmentSums (words : List Word) :
    wordSum ((segmentSums (dataOf words) none).filterMap id) = wordSum (dataOf words) := by
  have hsums : (segmentSums (dataOf words) none).filterMap id =
      ((List.range 16).map fun k => segmentOf k (dataOf words)).map wordSum := by
    simp [segmentSums, List.filterMap_map, Function.comp_def]
  rw [hsums, wordSum_map_wordSum, flatten_segmentOf, List.take_of_length_le (by simp [dataOf])]

/-- On a dropout at word `w` only the segments wholly before it have a sum. -/
theorem segmentSums_cut (words : List Word) (w : Nat) (hw : 3 ≤ w) {n : Nat} (hn : n < 16) :
    (segmentSums (dataOf words) (some (w - 3)))[n]? = some
      (if w < 16 * n + 19 then none else some (wordSum ((words.drop (16 * n + 3)).take 16))) := by
  have hcut : 16 * n + 16 ≤ w - 3 ↔ ¬ w < 16 * n + 19 := by omega
  simp only [segmentSums, List.getElem?_map, List.getElem?_range hn, Option.map_some,
    segmentOf_dataOf words hn, hcut, ite_not]

/-! ### The check unit's table (R8) -/

/-- Row 1, no sync: no words, or the clock lost within the header. -/
theorem judge_noData {cyl head sector : Nat} {d : Delivery} (hd : deliveredWords d = none) :
    judge cyl head sector d = bareFinding .noSync sector (cyl, head, sector) := by
  simp [judge, hd]

theorem judge_lostEarly {cyl head sector w : Nat} {d : Delivery} {words : List Word}
    (hd : deliveredWords d = some words) (hl : lossWord d = some w) (hw : w < 3) :
    judge cyl head sector d = bareFinding .noSync sector (cyl, head, sector) := by
  simp [judge, hd, hl, hw]

/-- With a header read, rows 2 to 8 apply. -/
theorem judge_words {cyl head sector : Nat} {d : Delivery} {words : List Word}
    (hd : deliveredWords d = some words) (hl : ∀ w, lossWord d = some w → 3 ≤ w) :
    judge cyl head sector d = judgeWords cyl head sector (lossWord d) words := by
  cases h : lossWord d with
  | none => simp [judge, hd, h]
  | some w => simp [judge, hd, h, Nat.not_lt.2 (hl w h)]

/-- Row 2: a good header that names another address. -/
theorem judgeWords_wrongHeader {cyl head sector : Nat} {lost : Option Nat} {words : List Word}
    (hg : headerGood words = true) (hn : headerNames words ≠ (cyl, head, sector)) :
    judgeWords cyl head sector lost words = bareFinding .wrongHeader sector (headerNames words) := by
  simp [judgeWords, hg, hn]

/-- Row 3: the clock lost past the header. -/
theorem judgeWords_dropout {cyl head sector w : Nat} {words : List Word}
    (h : ¬(headerGood words = true ∧ headerNames words ≠ (cyl, head, sector))) :
    judgeWords cyl head sector (some w) words =
      { outcome := .dropout, sector := sector, dropout := some (w - 3), received := none,
        headerBad := !headerGood words, sums := segmentSums (dataOf words) (some (w - 3)),
        named := headerNames words } := if_neg h

theorem judgeWords_checked {cyl head sector : Nat} {words : List Word}
    (h : ¬(headerGood words = true ∧ headerNames words ≠ (cyl, head, sector))) :
    judgeWords cyl head sector none words = judgeChecked sector words := if_neg h

/-- Rows 4 to 8: the outcome by the data checkword, and then by the header sum. -/
theorem judgeChecked_outcome (sector : Nat) (words : List Word) :
    (judgeChecked sector words).outcome =
      if wordSum (dataOf words) = checkwordOf words then
        if headerGood words then .clean else .headerCheck
      else .dataCheck := by
  by_cases h : wordSum (dataOf words) = checkwordOf words
  · have hz : checkwordOf words ≠ Config.minusZero := h ▸ wordSum_ne_minusZero _
    simp [judgeChecked, h, hz]
  · simp [judgeChecked, h]

theorem judgeChecked_headerBad (sector : Nat) (words : List Word) :
    (judgeChecked sector words).headerBad =
      (decide ((judgeChecked sector words).outcome = .dataCheck) && !headerGood words) := rfl

/-- The findings are filed under the sector at which the stream was expected. -/
theorem judge_sector (cyl head sector : Nat) (d : Delivery) : (judge cyl head sector d).sector = sector := by
  cases hd : deliveredWords d with
  | none => rw [judge_noData hd]; rfl
  | some words =>
    by_cases hl : ∀ w, lossWord d = some w → 3 ≤ w
    · rw [judge_words hd hl]
      unfold judgeWords judgeChecked bareFinding
      split
      · rfl
      · split <;> rfl
    · push Not at hl
      obtain ⟨w, hw, hlt⟩ := hl
      rw [judge_lostEarly hd hw hlt]
      rfl

/-- A stream with its header read that names no other address is CLEAN, or has one of the three damages. -/
theorem judgeWords_outcome {cyl head sector : Nat} {lost : Option Nat} {words : List Word}
    (h : ¬(headerGood words = true ∧ headerNames words ≠ (cyl, head, sector))) :
    (judgeWords cyl head sector lost words).outcome ∈
      (if headerGood words then [CheckOutcome.clean, .dataCheck, .dropout]
        else [CheckOutcome.headerCheck, .dataCheck, .dropout]) := by
  cases lost with
  | some w =>
    rw [judgeWords_dropout h]
    split <;> simp
  | none =>
    rw [judgeWords_checked h, judgeChecked_outcome]
    by_cases hs : wordSum (dataOf words) = checkwordOf words <;> cases headerGood words <;> simp [hs]

/-! ### The sector a READ TRACK stream is expected at (R11) -/

theorem trackSector_named {cyl head mark sectors sector : Nat} {d : Delivery} {words : List Word}
    (hd : deliveredWords d = some words) (hg : headerGood words = true)
    (hn : headerNames words = (cyl, head, sector)) (hs : sector < sectors) :
    trackSector cyl head mark sectors d = sector := by
  simp [trackSector, hd, hg, hn, hs]

/-- A stream whose header names no sector of the track, or fails its sum, is expected at its mark. -/
theorem trackSector_mark {cyl head mark sectors : Nat} {d : Delivery} {words : List Word}
    (hd : deliveredWords d = some words)
    (h : headerGood words = true → ∀ n, n < sectors → headerNames words ≠ (cyl, head, n)) :
    trackSector cyl head mark sectors d = mark := by
  simp only [trackSector, hd]
  refine if_neg fun ⟨hg, hc, hh, hs⟩ => h hg _ hs ?_
  rw [← hc, ← hh]

/-- The findings of R8 on the streams of a READ SECTOR, row by row. -/
theorem judge_findings (cyl head sector : Nat) (d : Delivery) (words : List Word)
    (hd : deliveredWords d = some words) (hl : ∀ w, lossWord d = some w → 3 ≤ w)
    (h : ¬(headerGood words = true ∧ headerNames words ≠ (cyl, head, sector))) (f : Finding)
    (hf : f = judge cyl head sector d) :
    (∀ w, lossWord d = some w →
      f.outcome = .dropout ∧ f.dropout = some (w - 3) ∧ f.headerBad = !headerGood words ∧
      f.received = none ∧ f.sums.length = 16 ∧ ∀ n < 16, f.sums[n]? = some
        (if w < 16 * n + 19 then none else some (wordSum ((words.drop (16 * n + 3)).take 16)))) ∧
    (lossWord d = none → f = judgeChecked sector words) := by
  rw [judge_words hd hl] at hf
  refine ⟨fun w hw => ?_, fun hn => ?_⟩
  · rw [hw, judgeWords_dropout h] at hf
    subst hf
    exact ⟨rfl, rfl, rfl, rfl, by simp [segmentSums], fun n hn => segmentSums_cut words w (hl w hw) hn⟩
  · rw [hf, hn, judgeWords_checked h]

/-- Settles O51, by the rows of R8's table. -/
theorem checkOutcomeOrder : Obligations.CheckOutcomeOrder := by
  intro cyl head sector d
  constructor
  · rintro f hf
    refine ⟨hf ▸ judge_sector .., fun hd => hf ▸ judge_noData hd ▸ rfl, fun words hd => ?_⟩
    refine ⟨fun w hw hlt => hf ▸ judge_lostEarly hd hw hlt ▸ rfl, fun hl => ⟨fun hg hn => ?_, fun h => ?_⟩⟩
    · rw [hf, judge_words hd hl, judgeWords_wrongHeader hg hn]
      rfl
    · obtain ⟨hdrop, hcheck⟩ := judge_findings cyl head sector d words hd hl h f hf
      refine ⟨hdrop, fun hn => ?_⟩
      obtain rfl := hcheck hn
      have hout := judgeChecked_outcome sector words
      refine ⟨rfl, rfl, fun hz => ?_, fun hs => ?_, fun hs hg => ?_, fun hs hg => ?_, ?_,
        segmentSums_whole words, wordSum_segmentSums words⟩
      · have hs : wordSum (dataOf words) ≠ checkwordOf words := hz ▸ wordSum_ne_minusZero _
        rw [hout, if_neg hs]
      · rw [hout, if_neg hs]
      · simp [hout, hs, hg]
      · simp [hout, hs, hg]
      · rw [judgeChecked_headerBad]
        simp
  · rintro mark sectors f hmark hf
    rw [judgeTrack] at hf
    refine ⟨fun hd => hf ▸ judge_noData hd ▸ rfl, fun words hd => ?_⟩
    refine ⟨fun w hw hlt => hf ▸ judge_lostEarly hd hw hlt ▸ rfl, fun hl =>
      ⟨fun hg hn hs => ?_, fun hg hn => ?_, fun hg => ?_⟩⟩
    · rw [trackSector_named hd hg hn hs] at hf
      refine ⟨hf, ?_⟩
      rw [hf, judge_words hd hl]
      simpa [hg] using judgeWords_outcome (lost := lossWord d) (fun h => h.2 hn)
    · rw [trackSector_mark hd fun _ => hn, judge_words hd hl, judgeWords_wrongHeader hg (hn mark hmark)] at hf
      subst hf
      exact ⟨rfl, rfl⟩
    · have hnot : ¬(headerGood words = true ∧ headerNames words ≠ (cyl, head, mark)) := by simp [hg]
      rw [trackSector_mark hd (by simp [hg])] at hf
      refine ⟨hf, ?_⟩
      rw [hf, judge_words hd hl]
      simpa [hg] using judgeWords_outcome (lost := lossWord d) hnot

end Sys2Proof.Machine
end

section
/-! SUPPORT. A WRITE SECTOR as it is taken (R16, R26, R38 to R40). -/

namespace Sys2Proof.Machine

/-- With the bypass open a WRITE SECTOR is taken in the state that the abandonment leaves. -/
theorem exec_writeSector (s : State) (head sector : Nat) (data : List Word) (check : Option Word)
    (h : s.bypassOpen = true) : exec (.writeSector head sector data check) s =
      .next (endCommand (takeWrite (s.taken []).controllerUnit head sector data check (s.taken []))) :=
  congrArg Host.Outcome.next (throughRelay_open s _ _ _ h)

theorem wholeField_short {data : List Word} {check : Option Word} (h : data.length < 256 ∨ check = none) :
    wholeField data check = none := by
  unfold wholeField
  split
  · exact h.resolve_left (by omega)
  · rfl

/-- On the maintenance cylinder a write is the request's, and elsewhere of the unit's policy. -/
theorem takeWrite_maintenance (a : State) (u : UnitNo) (head sector : Nat) (data : List Word)
    (check : Option Word) (h : (a.unit u).controllerCyl = some 1023) :
    takeWrite u head sector data check a = writeMaintenance ⟨u, 1023, head, sector⟩ data check a := if_pos h

theorem takeWrite_onCylinder (a : State) (u : UnitNo) (head sector c : Nat) (data : List Word)
    (check : Option Word) (hcyl : (a.unit u).controllerCyl = some c) (hc : c ≠ 1023)
    (hready : (a.unit u).ready = true) (hseek : (a.unit u).seekPending = false) :
    takeWrite u head sector data check a = writeByPolicy ⟨u, c, head, sector⟩ data check a := by
  simp [takeWrite, onCylinder, hcyl, hc, hready, hseek, Config.maintenanceCylinder]

/-- A write under REDIRECT on a present unit is received whole or stays in receipt (R16, R40). -/
theorem writeByPolicy_redirect (k : Addr) (a : State) (data : List Word) (check : Option Word)
    (hp : (a.unit k.unit).policy = .redirect) (hg : (a.unit k.unit).geometry.present = true) :
    writeByPolicy k data check a =
      match wholeField data check with
      | some c => redirectWrite k (data.take 256) c a
      | none => receiveWrite k data a := by
  rw [writeByPolicy, hp, hg]
  rfl

/-- A redirected write that does not match goes to no store, and leaves its record (R40, R158). -/
theorem redirectWrite_mismatch (k : Addr) (data : List Word) (check : Word) (a : State)
    (h : wordSum data ≠ check) : redirectWrite k data check a =
      emit (.answer k.unit .writeProtected) (appendRecord (cableCheckRecord k (wordSum data) check) a) := by
  simp [redirectWrite, writeMatches, h]

/-- Settles O15: the two ways a write is incomplete end in `receiveWrite`, and the record of a mismatch is
`appendRecord`'s, on a queue with room or full. -/
theorem redirectedWriteMismatch : Obligations.RedirectedWriteMismatch := by
  rintro s a u head sector c data hopen rfl rfl hcyl
  refine ⟨fun check hshort hplace => ?_, fun check hready hseek hc hp hg hlen hsum => ?_⟩
  · rw [exec_writeSector s head sector data check hopen]
    rcases hplace with ⟨rfl, rfl⟩ | ⟨hc, hready, hseek, hp, hg⟩
    · rw [takeWrite_maintenance _ _ _ _ _ _ hcyl, writeMaintenance, wholeField_short hshort]
      rfl
    · rw [takeWrite_onCylinder _ _ _ _ c _ _ hcyl hc hready hseek, writeByPolicy_redirect _ _ _ _ hp hg,
        wholeField_short hshort]
      rfl
  · have hwhole : wholeField data (some check) = some check := by simp [wholeField, hlen]
    have htaken : exec (.writeSector head sector data (some check)) s =
        .next (endCommand (emit (.answer (s.taken []).controllerUnit .writeProtected) (appendRecord
          (cableCheckRecord ⟨(s.taken []).controllerUnit, c, head, sector⟩ (wordSum data) check)
          (s.taken [])))) := by
      rw [exec_writeSector s head sector data _ hopen, takeWrite_onCylinder _ _ _ _ c _ _ hcyl hc hready hseek,
        writeByPolicy_redirect _ _ _ _ hp hg, hwhole]
      simp only [List.take_of_length_le hlen.le]
      rw [redirectWrite_mismatch _ _ _ _ hsum]
    rw [htaken]
    obtain ⟨hroom, happ⟩ | ⟨hfull, happ⟩ := appendRecord_cases (s.taken [])
      (cableCheckRecord ⟨(s.taken []).controllerUnit, c, head, sector⟩ (wordSum data) check)
    · exact ⟨fun _ => by rw [happ]; rfl, fun hfull => absurd hroom (Nat.not_lt.2 hfull)⟩
    · exact ⟨fun hroom => absurd hroom (Nat.not_lt.2 hfull), fun _ => by rw [happ]; rfl⟩

end Sys2Proof.Machine
end

section
/-! SUPPORT. What the releases of slots and the readouts leave as they were (Chapter 4), and what the jobs'
finding where they stand can do (log 11). -/

namespace Sys2Proof.Machine

variable (s : State)

/-! ### Jobs alike but for some fields -/

/-- The jobs of `t` are those of `s` but for what `g` forgets of a job. -/
def JobsAlike (g : Job → Job) (s t : State) : Prop := t.jobList.map g = s.jobList.map g

/-- A job but for its reservation. -/
def Job.unreserved (j : Job) : Job := { j with reservation := 0 }

theorem Job.eq_of_unreserved {j k : Job} (h : j.unreserved = k.unreserved) :
    j = { k with reservation := j.reservation } := by
  cases j
  cases k
  simp_all [Job.unreserved]

namespace JobsAlike

variable {s} {t r : State} {g : Job → Job}

theorem trans (h : JobsAlike g s t) (h' : JobsAlike g t r) : JobsAlike g s r := Eq.trans h' h

/-- What a coarser look tells alike. -/
theorem coarsen (h : JobsAlike g s t) (f : Job → Job) (hf : ∀ j, f (g j) = f j) : JobsAlike f s t := by
  have e : f ∘ g = f := funext hf
  have hmap := congrArg (List.map f) h
  rwa [List.map_map, List.map_map, e] at hmap

theorem modJob {n : Nat} {f : Job → Job} (h : JobsAlike g s t) (hf : ∀ j, g (f j) = g j) :
    JobsAlike g s (modJob n f t) := by
  refine h.trans ?_
  rw [JobsAlike, modJob_jobList, List.map_map]
  refine List.map_congr_left fun j _ => ?_
  simp only [Function.comp_apply]
  split
  · exact hf j
  · rfl

/-- What is looked up in the job table by what `g` leaves is found alike. -/
theorem find (h : JobsAlike g s t) (p : Job → Bool) (hp : ∀ j, p (g j) = p j) :
    (t.jobList.find? p).map g = (s.jobList.find? p).map g := by
  have e : p ∘ g = p := funext hp
  have hmap := congrArg (List.find? p) h
  rwa [List.find?_map, List.find?_map, e] at hmap

theorem job_some (h : JobsAlike g s t) (hg : ∀ j, (g j).number = j.number) {n : Nat} {j : Job}
    (hj : s.job n = some j) : ∃ k, t.job n = some k ∧ g k = g j := by
  have hmap : (t.job n).map g = (s.job n).map g := h.find _ fun j => by rw [hg]
  rw [hj] at hmap
  exact Option.map_eq_some_iff.1 hmap

theorem number (h : JobsAlike g s t) (hg : ∀ j, (g j).number = j.number) {k : Job} (hk : k ∈ t.jobList) :
    ∃ x ∈ s.jobList, x.number = k.number := by
  have hmem : g k ∈ s.jobList.map g := h ▸ List.mem_map_of_mem hk
  obtain ⟨x, hx, hxk⟩ := List.mem_map.1 hmem
  exact ⟨x, hx, by rw [← hg x, hxk, hg]⟩

end JobsAlike

variable {s}

/-- `t` is `s` but for the reservations of its jobs. -/
def OnlyReserves (s t : State) : Prop := (∃ x, t = { s with jobs := x }) ∧ JobsAlike Job.unreserved s t

theorem OnlyReserves.refl : OnlyReserves s s := ⟨⟨_, rfl⟩, rfl⟩

theorem OnlyReserves.modJob {t : State} {n : Nat} {f : Job → Job}
    (hf : ∀ j, (f j).unreserved = j.unreserved) (h : OnlyReserves s t) :
    OnlyReserves s (modJob n f t) := by
  obtain ⟨⟨x, rfl⟩, hjobs⟩ := h
  exact ⟨⟨_, rfl⟩, hjobs.modJob hf⟩

variable (s)

theorem restoreReservations_onlyReserves : OnlyReserves s (restoreReservations s) :=
  restoreReservations_induct s _ (fun _ _ h => h.modJob fun _ => rfl) .refl

theorem trimClaims_onlyReserves : OnlyReserves s (trimClaims s) :=
  trimClaims_induct s _ (fun _ _ h => h.modJob fun _ => rfl) .refl

/-! ### The release of a slot (R67) -/

/-- Slot `i` once it has gone back. -/
def State.freedSlot (s : State) (i : SlotId) : Slot :=
  { Slot.free with
    words := (s.slot i).words, state := if s.bankRetired (bankOf i) then .retired else .free }

theorem freeSlot_slot (i k : SlotId) :
    (freeSlot i s).slot k = if k = i then s.freedSlot i else s.slot k := Table.get_set ..

/-- A release is the slot's going back where it had an owner, with no more than reservations beside it. -/
theorem releaseSlot_eq_freeSlot (i : SlotId) :
    (s.slot i).owner = none ∧ releaseSlot i s = s ∨
    (s.slot i).owner ≠ none ∧ ∃ x, releaseSlot i s = { freeSlot i s with jobs := x } ∧
      JobsAlike Job.unreserved s (releaseSlot i s) := by
  obtain ⟨ho, e⟩ | ⟨ho, e⟩ | ⟨n, ho, e | ⟨-, -, e⟩⟩ := releaseSlot_cases s i
  · exact .inl ⟨ho, e⟩
  all_goals refine .inr ⟨by simp [ho], ?_⟩
  · obtain ⟨⟨x, hx⟩, hjobs⟩ := restoreReservations_onlyReserves (freeSlot i s)
    exact ⟨x, e.trans hx, e ▸ hjobs⟩
  · exact ⟨_, e, e ▸ rfl⟩
  · refine ⟨_, e, ?_⟩
    rw [e]
    exact JobsAlike.modJob (s := s) rfl fun _ => rfl

theorem releaseSlot_slot (i k : SlotId) : (releaseSlot i s).slot k =
    if k = i ∧ (s.slot i).owner ≠ none then s.freedSlot i else s.slot k := by
  obtain ⟨ho, e⟩ | ⟨ho, x, e, -⟩ := releaseSlot_eq_freeSlot s i
  · simp [ho, e]
  · simp only [ho, ne_eq, not_false_eq_true, and_true, ← freeSlot_slot]
    rw [e]
    rfl

/-- A slot released has no owner. -/
theorem releaseSlot_owner (i : SlotId) : ((releaseSlot i s).slot i).owner = none := by
  rw [releaseSlot_slot]
  split
  · rfl
  · simp_all

theorem releaseSlot_eq (i : SlotId) : releaseSlot i s =
    { s with slots := (releaseSlot i s).slots, jobs := (releaseSlot i s).jobs } := by
  obtain ⟨-, e⟩ | ⟨-, x, e, -⟩ := releaseSlot_eq_freeSlot s i
  · rw [e]
  · rw [e]
    rfl

theorem releaseSlot_jobsAlike (i : SlotId) : JobsAlike Job.unreserved s (releaseSlot i s) := by
  obtain ⟨-, e⟩ | ⟨-, x, -, h⟩ := releaseSlot_eq_freeSlot s i
  · rw [e]
    rfl
  · exact h

/-! ### Readouts (R68, R69) -/

/-- `t` is `s` but for its jobs and for what parity failures have taken out of service: of capture memory no
word and no descriptor has changed. -/
structure Lasts (s t : State) : Prop where
  fields : ∃ b x l n w, t = { s with
    banks := b, slots := x, jobs := l, notices := { s.notices with bankRetired := n }, noise := w }
  healthy : s.noise = [] → t.noise = []
  slot : ∀ i, t.slot i = { s.slot i with state := (t.slot i).state }

/-- `t` is `s` after readouts: parity failures may have been counted and a bank retired, whose FREE slots and
as much of the claims go. -/
structure ReadOut (s t : State) : Prop extends Lasts s t where
  jobs : JobsAlike Job.unreserved s t
  used : ∀ i, (s.slot i).state ≠ .free → t.slot i = s.slot i

theorem Lasts.refl : Lasts s s :=
  ⟨⟨_, _, _, s.notices.bankRetired, _, rfl⟩, id, fun _ => rfl⟩

theorem ReadOut.refl : ReadOut s s := ⟨.refl s, rfl, fun _ _ => rfl⟩

variable {s}

theorem Lasts.trans {t r : State} (h : Lasts s t) (g : Lasts t r) : Lasts s r where
  fields := by
    obtain ⟨_, _, _, _, _, ht⟩ := h.fields
    obtain ⟨b, x, l, n, w, hr⟩ := g.fields
    exact ⟨b, x, l, n, w, by rw [hr, ht]⟩
  healthy e := g.healthy (h.healthy e)
  slot i := by rw [g.slot i, h.slot i]

theorem Lasts.modJob {t : State} (h : Lasts s t) (n : Nat) (f : Job → Job) : Lasts s (modJob n f t) :=
  h.trans ⟨⟨_, _, _, t.notices.bankRetired, _, rfl⟩, id, fun _ => rfl⟩

theorem ReadOut.trans {t r : State} (h : ReadOut s t) (g : ReadOut t r) : ReadOut s r where
  toLasts := h.toLasts.trans g.toLasts
  jobs := h.jobs.trans g.jobs
  used i hi := (g.used i (h.used i hi ▸ hi)).trans (h.used i hi)

variable (s)

theorem readOut_retireBank (b : Fin 2) : ReadOut s (retireBank b s) := by
  obtain ⟨⟨l, e⟩, hjobs⟩ := trimClaims_onlyReserves (noteBankRetired { s with
    banks := s.banks.set b { s.banks.get b with retired := true }
    slots := s.slots.mapWithIndex fun i x =>
      if i % 2 = b.val ∧ x.state = .free then { x with state := .retired } else x })
  change retireBank b s = _ at e
  have hslot : ∀ i, (retireBank b s).slot i =
      if i.val % 2 = b.val ∧ (s.slot i).state = .free then { s.slot i with state := .retired }
      else s.slot i := fun i => by
    rw [e]
    exact Table.get_mapWithIndex ..
  refine ⟨⟨⟨_, _, _, true, _, e⟩, fun h => ?_, fun i => ?_⟩, hjobs, fun i hi => ?_⟩
  · rw [e]
    exact h
  · rw [hslot i]
    split <;> rfl
  · rw [hslot i, if_neg fun h => hi h.2]

theorem readOut_countParity (b : Fin 2) : ReadOut s (countParity b s) := by
  have counted : ReadOut s { s with
      banks := s.banks.set b { s.banks.get b with parity := (s.banks.get b).parity + 1 } } :=
    ⟨⟨⟨_, _, _, s.notices.bankRetired, _, rfl⟩, id, fun _ => rfl⟩, rfl, fun _ _ => rfl⟩
  obtain ⟨-, e⟩ | ⟨t, rfl, ⟨-, e⟩ | ⟨-, e⟩⟩ := countParity_cases s b
  · rw [e]
    exact .refl s
  · exact e ▸ counted
  · exact e ▸ counted.trans (readOut_retireBank _ b)

theorem readOut_readSlot (i : SlotId) (start len : Nat) : ReadOut s (readSlot i start len s).2 := by
  have taken : ReadOut s { s with noise := s.noise.tail } :=
    ⟨⟨⟨_, _, _, s.notices.bankRetired, _, rfl⟩, fun h => by simp [h], fun _ => rfl⟩, rfl,
      fun _ _ => rfl⟩
  obtain ⟨-, e⟩ | ⟨-, e⟩ := readSlot_cases s i start len
  · exact e ▸ taken
  · exact e ▸ taken.trans (readOut_countParity _ _)

theorem readOut_readData (i : SlotId) : ReadOut s (readData i s).2 := readOut_readSlot s i 3 256

theorem readOut_readWhole (i : SlotId) : ReadOut s (readWhole i s).2 := readOut_readSlot s i 0 260

/-- What a readout gives is told by the slot's words and by the noise that it meets. -/
theorem readSlot_words_congr {s t : State} {i : SlotId} (start len : Nat)
    (hw : (t.slot i).words = (s.slot i).words) (hn : t.noise = s.noise) :
    (readSlot i start len t).1 = (readSlot i start len s).1 := by
  simp only [readSlot, State.nextNoise, hw, hn]

/-! ### The jobs find where they stand (log 11) -/

/-- What finding where it stands makes of a job's record: at most its state, QUEUED or AWAITING, how far its
positioning has come, and which slots it has. -/
def Job.Moves (j k : Job) : Prop :=
  (k.state = j.state ∨ k.state = .queued ∨ k.state = .awaiting) ∧
    k = { j with
      state := k.state, repositionNeeded := k.repositionNeeded, actionSecond := k.actionSecond
      actionDone := k.actionDone, claimChecked := k.claimChecked, list := k.list
      previousSlot := k.previousSlot, filling := k.filling, reservation := k.reservation }

/-- The updates of which the jobs' finding where they stand is made all keep `P`. -/
structure KeptBySettling (P : State → Prop) : Prop where
  job : ∀ n f t, (∀ j : Job, j.Moves (f j)) → P t → P (modJob n f t)
  leave : ∀ n t, P t → P (leaveArbiter n t)
  free : ∀ i t, P t → P (freeSlot i t)
  fill : ∀ n i t, P t → P (fillFor (.job n) i t)
  ended : ∀ n t, t.allRetired = true → P t → P (endJob n .faultedSlot t)

namespace KeptBySettling

variable {s} {P : State → Prop} (hP : KeptBySettling P)

include hP

theorem sendBack (n : Nat) (flag : Bool) (hs : P s) : P (sendBack n flag s) :=
  hP.leave _ _ (hP.job _ _ _ (fun _ => ⟨.inr (.inl rfl), rfl⟩) hs)

theorem giveReposition (n : Nat) (hs : P s) : P (giveReposition n s) := by
  unfold Machine.giveReposition
  split
  · exact hs
  · split
    · exact hs
    · exact hP.sendBack n true hs
    · exact hP.sendBack n true hs
    · exact hP.job _ _ _ (fun _ => ⟨.inl rfl, rfl⟩) hs
    · exact hP.job _ _ _ (fun _ => ⟨.inl rfl, rfl⟩) hs

theorem restoreReservations (hs : P s) : P (restoreReservations s) :=
  restoreReservations_induct s P (fun _ _ h => hP.job _ _ _ (fun _ => ⟨.inl rfl, rfl⟩) h) hs

theorem releaseSlot (i : SlotId) (hs : P s) : P (releaseSlot i s) := by
  obtain ⟨-, e⟩ | ⟨-, e⟩ | ⟨n, -, e | ⟨-, -, e⟩⟩ := releaseSlot_cases s i <;> rw [e]
  · exact hs
  · exact hP.restoreReservations (hP.free _ _ hs)
  · exact hP.free _ _ hs
  · exact hP.free _ _ (hP.job _ _ _ (fun _ => ⟨.inl rfl, rfl⟩) hs)

theorem checkClaim (n : Nat) (hs : P s) : P (checkClaim n s) := by
  have checked : P (modJob n (fun j => { j with claimChecked := true }) s) :=
    hP.job _ _ _ (fun _ => ⟨.inl rfl, rfl⟩) hs
  unfold Machine.checkClaim
  split
  · exact hs
  · split
    · exact hs
    · dsimp only
      split
      · split
        · exact hP.releaseSlot _ (hP.job _ _ _ (fun _ => ⟨.inl rfl, rfl⟩) checked)
        · exact checked
      · exact checked

theorem takeJobSlot (n : Nat) (hs : P s) : P (takeJobSlot n s) := by
  unfold Machine.takeJobSlot
  split
  · exact hs
  · split
    · exact hs
    · exact hP.job _ _ _ (fun _ => ⟨.inl rfl, rfl⟩) (hP.fill _ _ _ hs)

theorem takeIfClaimed (n : Nat) (hs : P s) : P (takeIfClaimed n s) := by
  unfold Machine.takeIfClaimed
  split
  · exact hs
  · split
    · exact takeJobSlots_induct s P n _ (fun _ h => hP.takeJobSlot n h) hs
    · exact hs

theorem prepareRead (n : Nat) (hs : P s) : P (prepareRead n s) := by
  unfold Machine.prepareRead
  split
  · exact hs
  · split
    · exact hs
    · split
      · exact hP.ended _ _ ‹_› hs
      · split
        · exact hP.takeIfClaimed n (hP.checkClaim n hs)
        · exact hP.takeIfClaimed n hs

theorem settleJob (n : Nat) (hs : P s) : P (settleJob n s) := by
  obtain e | ⟨j, -, ⟨-, e⟩ | ⟨-, e | e | e⟩⟩ := settleJob_cases s n <;> rw [e]
  · exact hs
  · exact hP.prepareRead n (hP.job _ _ _ (fun _ => ⟨.inr (.inr rfl), rfl⟩) hs)
  · exact hP.giveReposition n hs
  · exact hP.sendBack n false hs
  · exact hP.prepareRead n hs

/-- What the updates of one job's finding where it stands keep, all jobs' keeps. -/
theorem settleJobs (hs : P s) : P (settleJobs s) := settleJobs_induct s P (fun n _ => hP.settleJob n) hs

end KeptBySettling

end Sys2Proof.Machine
end

section
/-! SUPPORT. The release of a job's slots, the posting of a job that has nothing to store, and what the jobs'
finding where they stand leaves alone while the controller waits for nothing. -/

namespace Sys2Proof.Machine

variable (s : State)

/-! ### Slots released together (R62, R67) -/

theorem releaseSlots_eq (l : List SlotId) : releaseSlots l s =
    { s with slots := (releaseSlots l s).slots, jobs := (releaseSlots l s).jobs } := by
  obtain ⟨x, y, e⟩ : ∃ x y, releaseSlots l s = { s with slots := x, jobs := y } :=
    releaseSlots_induct s (fun t => ∃ x y, t = { s with slots := x, jobs := y })
      (by rintro i _ ⟨x, y, rfl⟩; exact ⟨_, _, releaseSlot_eq _ i⟩) l ⟨_, _, rfl⟩
  rw [e]

/-- Of the slots released those with an owner go back, and the others stay as they were. -/
theorem releaseSlots_slot (l : List SlotId) (k : SlotId) : (releaseSlots l s).slot k =
    if k ∈ l ∧ (s.slot k).owner ≠ none then s.freedSlot k else s.slot k := by
  induction l generalizing s with
  | nil => simp [releaseSlots]
  | cons i l ih =>
    have hbank : (releaseSlot i s).bankRetired = s.bankRetired := by
      rw [releaseSlot_eq]
      rfl
    change (releaseSlots l (releaseSlot i s)).slot k = _
    rw [ih (releaseSlot i s), State.freedSlot, hbank, releaseSlot_slot]
    by_cases hk : k = i
    · subst hk
      by_cases ho : (s.slot k).owner = none
      · simp [ho]
      · simp [ho, State.freedSlot, Slot.free]
    · simp [hk, State.freedSlot]

/-- The release of slots of job `n` takes nothing from the other jobs. -/
theorem releaseSlots_others (n : Nat) (l : List SlotId)
    (hl : ∀ i ∈ l, (s.slot i).owner = none ∨ (s.slot i).owner = some (.job n)) :
    ((releaseSlots l s).jobList.filter fun j => j.number ≠ n) = s.jobList.filter fun j => j.number ≠ n := by
  induction l generalizing s with
  | nil => rfl
  | cons i l ih =>
    have others : ((releaseSlot i s).jobList.filter fun j => j.number ≠ n) =
        s.jobList.filter fun j => j.number ≠ n := by
      obtain ⟨-, e⟩ | ⟨ho, -⟩ | ⟨m, ho, e | ⟨-, -, e⟩⟩ := releaseSlot_cases s i
      · rw [e]
      · exact absurd (hl i List.mem_cons_self) (by simp [ho])
      · rw [e]
        rfl
      · obtain rfl : m = n := by simpa [ho] using hl i List.mem_cons_self
        rw [e]
        change ((modJob m _ s).jobList.filter _) = _
        rw [modJob_jobList, List.filter_map, List.map_congr_left (g := id), List.map_id]
        · refine List.filter_congr fun j _ => ?_
          by_cases h : j.number = m <;> simp [h]
        · intro j hj
          have hm : j.number ≠ m := fun h => by simp [h] at hj
          simp [hm]
    refine (ih (releaseSlot i s) fun k hk => ?_).trans others
    rw [releaseSlot_slot]
    split
    · exact .inl rfl
    · exact hl k (List.mem_cons_of_mem i hk)

theorem releaseJobSlots_slot (n : Nat) (i : SlotId) : (releaseJobSlots n s).slot i =
    if (s.slot i).owner = some (.job n) then s.freedSlot i else s.slot i := by
  rw [releaseJobSlots, releaseSlots_slot]
  by_cases h : (s.slot i).owner = some (.job n) <;> simp [h]

/-- With its slots released job `n` leaves the table, and the other jobs are those that were there. -/
theorem dropJob_releaseJobSlots_jobList (n : Nat) :
    (dropJob n (releaseJobSlots n s)).jobList = s.jobList.filter fun j => j.number ≠ n := by
  rw [dropJob_jobList]
  exact releaseSlots_others s n _ fun i hi => .inr (by simpa using hi)

/-! ### Reservations raised (R70) -/

/-- `k` is job `j` with at least its reservation. -/
def Job.Raised (j k : Job) : Prop := k = { j with reservation := k.reservation } ∧ j.reservation ≤ k.reservation

theorem Job.Raised.refl (j : Job) : j.Raised j := ⟨rfl, Nat.le_refl _⟩

theorem Job.Raised.trans {j k l : Job} (h : j.Raised k) (g : k.Raised l) : j.Raised l :=
  ⟨by rw [g.1, h.1], Nat.le_trans h.2 g.2⟩

/-- The jobs of `t` are those of `s` with at least their reservations. -/
def RaisedJobs (s t : State) : Prop :=
  (∀ k ∈ t.jobList, ∃ x ∈ s.jobList, x.Raised k) ∧ ∀ x ∈ s.jobList, ∃ k ∈ t.jobList, x.Raised k

theorem restoreReservations_raised : RaisedJobs s (restoreReservations s) := by
  refine restoreReservations_induct s _ (fun t j ⟨back, forth⟩ => ?_)
    ⟨fun k hk => ⟨k, hk, .refl k⟩, fun k hk => ⟨k, hk, .refl k⟩⟩
  have raised : ∀ x : Job, x.Raised (if x.number = j.number then { x with
      reservation := x.reservation + min (x.granted - x.reservation) t.available } else x) := fun x => by
    split
    · exact ⟨rfl, Nat.le_add_right ..⟩
    · exact .refl x
  rw [restoreJob, RaisedJobs, modJob_jobList]
  refine ⟨fun k hk => ?_, fun x hx => ?_⟩
  · obtain ⟨y, hy, rfl⟩ := List.mem_map.1 hk
    obtain ⟨x, hx, hxy⟩ := back y hy
    exact ⟨x, hx, hxy.trans (raised y)⟩
  · obtain ⟨y, hy, hxy⟩ := forth x hx
    exact ⟨_, List.mem_map_of_mem hy, hxy.trans (raised y)⟩

/-! ### Posting without an offer (R87) -/

/-- The record of a job that ends with nothing to store. -/
def closingRecord (j : Job) (e : Ending) : Record :=
  match j.kind with
  | .sector => sectorRecord j e .notKept
  | .track => trackRecord j e (j.rows.map (closeRow e))

/-- A job that ends without data and without a verdict on its sectors posts its record alone. -/
theorem postResults_dataless (j : Job) (e : Ending)
    (he : endingResult e ∈ [Result.cancelled, .superseded, .escalated, .faulted]) :
    postResults j e s = appendRecord (closingRecord j e) s := by
  have hdata : resultOrigin (endingResult e) = none ∧ ∀ t, countSectorEnding j.unit e t = t := by
    unfold countSectorEnding
    revert he
    cases endingResult e <;> simp [resultOrigin]
  have hopen : e ≠ .completed := by
    rintro rfl
    simp [endingResult] at he
  unfold postResults closingRecord
  cases j.kind with
  | sector => simp only [offerResult, hdata.1, hdata.2]
  | track => simp only [if_neg hopen]

/-! ### Readouts and answers while nothing is current -/

variable {s}

theorem ReadOut.current {t : State} (h : ReadOut s t) : t.current = s.current := by
  obtain ⟨_, _, _, _, _, e⟩ := h.fields
  rw [e]

theorem answerCurrent_none (a : Answer) (h : s.current = none) : answerCurrent a s = s := by
  simp [answerCurrent, h]

/-- With nothing current a capture forwarded is read out and goes nowhere. -/
theorem forwardCapture_idle (i : Option SlotId) (h : s.current = none) : ReadOut s (forwardCapture i s) := by
  cases i with
  | none =>
    rw [forwardCapture, answerCurrent_none .noData h]
    exact .refl s
  | some i =>
    have hread := readOut_readWhole s i
    have hidle : ∀ a, answerCurrent a (readWhole i s).2 = (readWhole i s).2 := fun a =>
      answerCurrent_none a (hread.current.trans h)
    rw [forwardCapture]
    split
    · rename_i words t e
      have ht : t = (readWhole i s).2 := by rw [e]
      rw [ht, hidle]
      exact hread
    · rename_i t e
      have ht : t = (readWhole i s).2 := by rw [e]
      rw [ht, hidle]
      exact hread

/-- With nothing current the held read of a job that ends for want of a slot is at most a readout. -/
theorem settleHeld_idle (j : Job) (h : s.current = none) : ReadOut s (settleHeld j .faultedSlot s).2 := by
  have hlet : letThrough s = s := by simp [letThrough, h]
  unfold settleHeld
  split
  · cases j.kind with
    | sector =>
      simp only [settleSector]
      cases fallbackCapture j with
      | some i => exact forwardCapture_idle (some i) h
      | none => exact hlet.symm ▸ .refl s
    | track =>
      have hfirst : forwardFirstFiled j s = (false, s) := by simp [forwardFirstFiled, h]
      simp only [settleTrack, hfirst]
      exact .refl s
  · exact .refl s

/-! ### What no controller sees -/

/-- `t` follows on `s` with the controller waiting for nothing: nothing goes up, no hold ends, no counter
advances, no job is made, and the relay is given no slot. -/
structure Quiet (s t : State) : Prop where
  current : t.current = none
  out : t.out = s.out
  controllerUnit : t.controllerUnit = s.controllerUnit
  grant : s.grant = none → t.grant = none
  face : ∀ v, (t.unit v).hold = (s.unit v).hold ∧ (t.unit v).counters = (s.unit v).counters
  numbers : ∀ j ∈ t.jobList, ∃ x ∈ s.jobList, x.number = j.number
  relay : ∀ i, (s.slot i).owner ≠ some .relay → (t.slot i).owner ≠ some .relay
  told : s.notices.jobEnded = true → t.notices.jobEnded = true

namespace Quiet

theorem refl (h : s.current = none) : Quiet s s :=
  ⟨h, rfl, rfl, id, fun _ => ⟨rfl, rfl⟩, fun j hj => ⟨j, hj, rfl⟩, fun _ => id, id⟩

variable {t r : State}

theorem trans (h : Quiet s t) (g : Quiet t r) : Quiet s r where
  current := g.current
  out := g.out.trans h.out
  controllerUnit := g.controllerUnit.trans h.controllerUnit
  grant e := g.grant (h.grant e)
  face v := ⟨(g.face v).1.trans (h.face v).1, (g.face v).2.trans (h.face v).2⟩
  numbers j hj := by
    obtain ⟨k, hk, hkj⟩ := g.numbers j hj
    obtain ⟨x, hx, hxk⟩ := h.numbers k hk
    exact ⟨x, hx, hxk.trans hkj⟩
  relay i hi := g.relay i (h.relay i hi)
  told e := g.told (h.told e)

/-- No job that was not in the table comes into it. -/
theorem job_none (h : Quiet s t) {n : Nat} (hn : s.job n = none) : t.job n = none := by
  refine List.find?_eq_none.2 fun j hj hjn => ?_
  obtain ⟨x, hx, hxj⟩ := h.numbers j hj
  exact List.find?_eq_none.1 hn x hx (by simpa [hxj] using hjn)

theorem modJob (h : Quiet s t) (n : Nat) (f : Job → Job) (hf : ∀ j, (f j).number = j.number) :
    Quiet s (modJob n f t) where
  __ := h
  numbers j hj := by
    rw [modJob_jobList] at hj
    obtain ⟨k, hk, rfl⟩ := List.mem_map.1 hj
    obtain ⟨x, hx, hxk⟩ := h.numbers k hk
    refine ⟨x, hx, hxk.trans ?_⟩
    split
    · exact (hf k).symm
    · rfl

theorem dropJob (h : Quiet s t) (n : Nat) : Quiet s (dropJob n t) where
  __ := h
  numbers j hj := by
    rw [dropJob_jobList] at hj
    exact h.numbers j (List.mem_of_mem_filter hj)

theorem modSlot (h : Quiet s t) (i : SlotId) (f : Slot → Slot)
    (hf : (t.slot i).owner ≠ some .relay → (f (t.slot i)).owner ≠ some .relay) :
    Quiet s (modSlot i f t) where
  __ := h
  relay k hk := by
    by_cases e : k = i
    · subst e
      rw [modSlot_slot_same]
      exact hf (h.relay k hk)
    · rw [modSlot_slot_ne t f e]
      exact h.relay k hk

theorem leaveArbiter (h : Quiet s t) (n : Nat) : Quiet s (leaveArbiter n t) where
  __ := h
  face v := by
    rw [State.unit, Machine.leaveArbiter, Table.get_map]
    exact h.face v

theorem appendRecord (h : Quiet s t) (x : Record) : Quiet s (appendRecord x t) := by
  obtain ⟨-, e⟩ | ⟨-, e⟩ := appendRecord_cases t x <;> rw [e]
  · exact { h with }
  · exact { h with }

theorem readOut (h : Quiet s t) (g : ReadOut t r) : Quiet s r := by
  obtain ⟨b, x, l, n, w, rfl⟩ := g.fields
  exact { h with
    numbers := fun j hj => by
      obtain ⟨k, hk, hkj⟩ := g.jobs.number (fun _ => rfl) hj
      obtain ⟨y, hy, hyk⟩ := h.numbers k hk
      exact ⟨y, hy, hyk.trans hkj⟩
    relay := fun i hi => by
      rw [g.slot i]
      exact h.relay i hi }

theorem onlyReserves (h : Quiet s t) (g : OnlyReserves t r) : Quiet s r := by
  obtain ⟨⟨x, rfl⟩, hjobs⟩ := g
  exact { h with
    numbers := fun j hj => by
      obtain ⟨k, hk, hkj⟩ := hjobs.number (fun _ => rfl) hj
      obtain ⟨y, hy, hyk⟩ := h.numbers k hk
      exact ⟨y, hy, hyk.trans hkj⟩ }

theorem releaseSlot (h : Quiet s t) (i : SlotId) : Quiet s (releaseSlot i t) := by
  have free : ∀ r, Quiet s r → Quiet s (freeSlot i r) := fun r hr => hr.modSlot i _ fun _ => nofun
  obtain ⟨-, e⟩ | ⟨-, e⟩ | ⟨n, -, e | ⟨-, -, e⟩⟩ := releaseSlot_cases t i <;> rw [e]
  · exact h
  · exact (free t h).onlyReserves (restoreReservations_onlyReserves _)
  · exact free t h
  · exact free _ (h.modJob n _ fun _ => rfl)

theorem releaseJobSlots (h : Quiet s t) (n : Nat) : Quiet s (releaseJobSlots n t) :=
  releaseSlots_induct _ (Quiet s) (fun i _ hi => hi.releaseSlot i) _ h

theorem endCommand (h : Quiet s t) : Quiet s (endCommand t) := { h with }

/-- A job that ends for want of a slot, none being left in service, is not seen either. -/
theorem endJob (h : Quiet s t) (n : Nat) : Quiet s (endJob n .faultedSlot t) := by
  obtain ⟨-, e⟩ | ⟨j, held, r, gone, -, hr, hgone, e⟩ := endJob_cases t n .faultedSlot
  · rw [e]
    exact h
  · have given : Quiet s (giveUpWork n t) := Quiet.leaveArbiter (t := { t with
      grant := t.grant.map fun g => if g.holder = .job n then { g with abandoned := true } else g })
      { h with grant := fun hg => by rw [h.grant hg]; rfl } n
    have settled : Quiet s r := by
      have hread := settleHeld_idle j given.current
      rw [hr] at hread
      exact given.readOut hread
    have posted : Quiet s (noteJobEnded (postResults ((r.job n).getD j) .faultedSlot r)) := by
      rw [postResults_dataless r _ .faultedSlot (by decide)]
      exact { settled.appendRecord (closingRecord _ _) with told := fun _ => rfl }
    have left : Quiet s gone := by
      rw [hgone]
      exact ((posted.releaseJobSlots n).dropJob n).onlyReserves (restoreReservations_onlyReserves _)
    have hretake : retakeRead gone = gone := by simp [retakeRead, left.current]
    rw [e, hretake, ite_self]
    exact left

/-- While nothing is current the jobs find where they stand unseen. -/
theorem settleJobs (h : Quiet s t) : Quiet s (settleJobs t) :=
  KeptBySettling.settleJobs (P := Quiet s)
    { job := fun n f r hf hr => hr.modJob n f fun j => by rw [(hf j).2]
      leave := fun n r hr => hr.leaveArbiter n
      free := fun i r hr => hr.modSlot i _ fun _ => nofun
      fill := fun n i r hr => hr.modSlot i _ fun _ => nofun
      ended := fun n r _ hr => hr.endJob n } h

end Quiet

theorem abandonOperation_current (s : State) : (abandonOperation s).current = none := by
  cases h : s.current <;> simp [abandonOperation, h]

/-- An operation is taken with nothing current any more (R19). -/
theorem taken_current (s : State) (noise : List ReadoutNoise) : (s.taken noise).current = none := by
  rw [State.taken]
  cases h : (beginCommand noise s).current with
  | none => rwa [abandonCurrent_none _ h]
  | some op =>
    rw [abandonCurrent_some _ op h]
    exact (Quiet.refl (abandonOperation_current _)).settleJobs.current

end Sys2Proof.Machine
end

section
/-! SUPPORT. CANCEL JOB (R178), and the end of what a job has abandoned on the cable (R14, R137). -/

namespace Sys2Proof.Machine

variable (s : State)

/-! ### A job cancelled (R87, R89) -/

theorem settleHeld_cancelled (j : Job) (t : State) : settleHeld j .cancelled t = (false, t) := by
  unfold settleHeld
  cases j.foreground <;> cases j.kind <;> rfl

/-- The record of a cancelled job, with the gap-pending mark (R159, R162). -/
theorem setGap_closingRecord (j : Job) (gap : Bool) : setGap gap (closingRecord j .cancelled) =
    match j.kind with
    | .sector => .sector
      { gap := gap, job := j.number, addr := ⟨j.unit, j.cyl, j.head, j.sector⟩
        origin := some j.origin, result := .cancelled, lastVerdict := j.lastVerdict
        attempts := j.attemptsMade, merged := j.merged
        report := j.report.getD ⟨0, none, 0, none, none⟩
        disposition := .notKept, heldRevs := j.heldRevs }
    | .track => .track
      { gap := gap, job := j.number, unit := j.unit, cyl := j.cyl, head := j.head
        origin := j.origin, revsDone := j.revsDone, reseeks := j.reseeks, result := .cancelled
        sectors := j.rows.map fun r =>
          (if r.superseded then Result.superseded else .unrecovered, false) } := by
  unfold closingRecord
  cases j.kind with
  | sector => rfl
  | track =>
    have hrow : ∀ r : SectorRow, ((closeRow .cancelled r).outcome.getD .unrecovered,
        (closeRow .cancelled r).stored) = (if r.superseded then Result.superseded else .unrecovered, false) :=
      fun r => by cases h : r.superseded <;> simp [closeRow, h]
    simp only [trackRecord, setGap, List.map_map, Function.comp_def, hrow]
    rfl

/-- The queue, the gap-pending mark and the overflow notice after a record has been handed over, whether there
was room for it or not (R156). -/
theorem appendRecord_eq (r : Record) : appendRecord r s = { s with
    records := if s.records.length < 128 then s.records ++ [setGap s.gapPending r] else s.records
    gapPending := decide (128 ≤ s.records.length)
    notices := { s.notices with
      recordsOverflow := s.notices.recordsOverflow || decide (128 ≤ s.records.length) } } := by
  obtain ⟨h, e⟩ | ⟨h, e⟩ := appendRecord_cases s r
  · simp [e, h, Nat.not_le.2 h]
  · simp [e, h, Nat.not_lt.2 h]

/-- `s` with job `n`, which stands as `j`, out of the arbiter, its read on the cable abandoned and its record
posted, before its slots go back (R87, R90). -/
def State.cancelled (s : State) (n : Nat) (j : Job) : State := { s with
  units := (leaveArbiter n s).units
  grant := s.grant.map fun g => if g.holder = .job n then { g with abandoned := true } else g
  records := if s.records.length < 128 then
    s.records ++ [setGap s.gapPending (closingRecord j .cancelled)] else s.records
  gapPending := decide (128 ≤ s.records.length)
  notices := { s.notices with
    jobEnded := true
    recordsOverflow := s.notices.recordsOverflow || decide (128 ≤ s.records.length) } }

section
variable {n : Nat} {j : Job} (hj : s.job n = some j)

include hj

/-- The steps of posting that a cancelled job comes to. -/
theorem endJob_cancelled : endJob n .cancelled s =
    restoreReservations (dropJob n (releaseJobSlots n (s.cancelled n j))) := by
  have hgiven : (giveUpWork n s).job n = some j := hj
  rw [endJob, hj]
  simp only [settleHeld_cancelled, hgiven, Option.getD_some, Bool.false_eq_true, if_false]
  rw [postResults_dataless _ j .cancelled (by decide), appendRecord_eq]
  rfl

theorem endJob_cancelled_fields : ∃ x l,
    endJob n .cancelled s = { s.cancelled n j with slots := x, jobs := l } := by
  obtain ⟨⟨l, hl⟩, -⟩ := restoreReservations_onlyReserves (dropJob n (releaseJobSlots n (s.cancelled n j)))
  rw [endJob_cancelled s hj]
  exact ⟨_, l, hl.trans (by rw [releaseJobSlots, releaseSlots_eq]; rfl)⟩

theorem endJob_cancelled_slot (i : SlotId) : (endJob n .cancelled s).slot i =
    if (s.slot i).owner = some (.job n) then s.freedSlot i else s.slot i := by
  obtain ⟨⟨l, hl⟩, -⟩ := restoreReservations_onlyReserves (dropJob n (releaseJobSlots n (s.cancelled n j)))
  rw [endJob_cancelled s hj, hl]
  exact releaseJobSlots_slot (s.cancelled n j) n i

/-- The other jobs are left, with at least the reservations that they had. -/
theorem endJob_cancelled_jobs :
    (∀ k ∈ (endJob n .cancelled s).jobList, ∃ x ∈ s.jobList, x.number ≠ n ∧ x.Raised k) ∧
    ∀ x ∈ s.jobList, x.number ≠ n → ∃ k ∈ (endJob n .cancelled s).jobList, x.Raised k := by
  have hleft := dropJob_releaseJobSlots_jobList (s.cancelled n j) n
  obtain ⟨back, forth⟩ := restoreReservations_raised (dropJob n (releaseJobSlots n (s.cancelled n j)))
  rw [hleft] at back forth
  rw [endJob_cancelled s hj]
  refine ⟨fun k hk => ?_, fun x hx hn => forth x (List.mem_filter.2 ⟨hx, by simpa using hn⟩)⟩
  obtain ⟨x, hx, hxk⟩ := back k hk
  obtain ⟨hx, hn⟩ := List.mem_filter.1 hx
  exact ⟨x, hx, by simpa using hn, hxk⟩

theorem endJob_cancelled_job : (endJob n .cancelled s).job n = none := by
  refine List.find?_eq_none.2 fun k hk => ?_
  obtain ⟨x, -, hn, hxk, -⟩ := (endJob_cancelled_jobs s hj).1 k hk
  rw [hxk]
  simpa using hn

end

/-! ### The request (R168, R178) -/

/-- A request that leaves the controller unit as it is answers as `State.replied` has it. -/
theorem requestWrite_replied (code tag : Word) (f : State → Reply × State) (s a t : State) (r : Reply)
    (ha : abandonCurrent s = a) (hf : f a = (r, t)) (hu : t.controllerUnit = a.controllerUnit) :
    endCommand (requestWrite code tag f s) = t.replied code tag (outcomeCode r.outcome) r.results := by
  rw [requestWrite_eq s code tag f a t r ha hf, ← hu]
  rfl

/-- With the bypass open CANCEL JOB is carried out in the state that the abandonment leaves. -/
theorem exec_cancelJob (tag n : Word) (t : State) (r : Reply) (h : s.bypassOpen = true)
    (hf : askCancel n (s.taken []) = (r, t)) (hu : t.controllerUnit = (s.taken []).controllerUnit) :
    exec (.cancelJob tag n) s = .next (t.replied 8 tag (outcomeCode r.outcome) r.results) :=
  congrArg Host.Outcome.next ((whenOpen_open s _ _ h).trans
    (requestWrite_replied 8 tag (askCancel n) _ _ t r rfl hf hu))

theorem askCancel_badField (n : Word) (h : n.toNat = 0 ∨ 255 < n.toNat) :
    askCancel n s = refuse .badField s := by
  have hrange : ranged 1 255 n = none := if_neg (by omega)
  rw [askCancel, hrange]

theorem askCancel_inRange (n : Word) (h1 : 1 ≤ n.toNat) (h2 : n.toNat ≤ 255) : askCancel n s =
    if (s.job n.toNat).isNone then refuse .noSuchJob s
    else done [] (settleJobs (endJob n.toNat .cancelled s)) := by
  rw [askCancel, ranged_some.2 ⟨h1, h2, rfl⟩]
  cases h : s.job n.toNat <;> simp [h]

/-- CANCEL JOB of a job in the table ends it, and every job finds where it stands. -/
theorem exec_cancelJob_done (tag n : Word) (h : s.bypassOpen = true) (h1 : 1 ≤ n.toNat) (h2 : n.toNat ≤ 255)
    {j : Job} (hj : (s.taken []).job n.toNat = some j) :
    Quiet (endJob n.toNat .cancelled (s.taken [])) (settleJobs (endJob n.toNat .cancelled (s.taken []))) ∧
      exec (.cancelJob tag n) s =
        .next ((settleJobs (endJob n.toNat .cancelled (s.taken []))).replied 8 tag 1 []) := by
  obtain ⟨x, l, e⟩ := endJob_cancelled_fields (s.taken []) hj
  have quiet := (Quiet.refl (s := endJob n.toNat .cancelled (s.taken []))
    (by rw [e]; exact taken_current s [])).settleJobs
  refine ⟨quiet, exec_cancelJob s tag n _ ⟨.done, []⟩ h ?_ (quiet.controllerUnit.trans (by rw [e]; rfl))⟩
  simp [askCancel_inRange _ n h1 h2, hj, done]

/-! ### The end of an abandoned read of a job (R14, R137) -/

section
variable {g : Grant} (hopen : s.bypassOpen = true) (hg : s.grant = some g)

include hopen hg

/-- With the bypass open the stream that ends is the relay's, a sector job's or a track job's, as the grant has
it. -/
theorem exec_streamChecked_relay (d : Delivery) (noise : List ReadoutNoise) {k : ReadKind} {head sector : Nat}
    (hh : g.holder = .relay k) (ho : g.op = .readSector head sector) : exec (.streamChecked d noise) s =
      .next (endCommand (settleJobs (relayStream g k head sector d (beginCommand noise s)))) :=
  congrArg Host.Outcome.next ((throughRelay_open s _ _ _ hopen).trans (by simp [endStream, hg, hh, ho]))

theorem exec_streamChecked_sector (d : Delivery) (noise : List ReadoutNoise) {n head sector : Nat}
    (hh : g.holder = .job n) (ho : g.op = .readSector head sector) : exec (.streamChecked d noise) s =
      .next (endCommand (settleJobs (jobStream n g sector head d (beginCommand noise s)))) :=
  congrArg Host.Outcome.next ((throughRelay_open s _ _ _ hopen).trans (by simp [endStream, hg, hh, ho]))

theorem exec_streamChecked_track (d : Delivery) (noise : List ReadoutNoise) {n head : Nat}
    (hh : g.holder = .job n) (ho : g.op = .readTrack head) : exec (.streamChecked d noise) s =
      .next (endCommand (settleJobs (trackStream n g head d (beginCommand noise s)))) :=
  congrArg Host.Outcome.next ((throughRelay_open s _ _ _ hopen).trans (by simp [endStream, hg, hh, ho]))

theorem exec_revolutionEnd_track (noise : List ReadoutNoise) {n head : Nat} (hh : g.holder = .job n)
    (ho : g.op = .readTrack head) : exec (.revolutionEnd noise) s =
      .next (endCommand (settleJobs (closeReadTrack n g (beginCommand noise s)))) :=
  congrArg Host.Outcome.next ((whenOpen_open s _ _ hopen).trans (by simp [takeRevolutionEnd, hg, hh, ho]))

end

section
variable {g : Grant} (hg : g.abandoned = true)

include hg

theorem jobStream_abandoned (n head sector : Nat) (d : Delivery) :
    jobStream n g sector head d s = { s with grant := none } := if_pos hg

theorem closeReadTrack_abandoned (n : Nat) : closeReadTrack n g s = { s with grant := none } := if_pos hg

theorem trackStream_abandoned (n head : Nat) (d : Delivery) : trackStream n g head d s = s := by
  simp [trackStream, hg]

end

/-- Settles O42: what the steps of posting come to for a cancelled job, and then the jobs' finding where they
stand, which with nothing current makes no job and keeps JOB_ENDED. -/
theorem jobCancelled : Obligations.JobCancelled := by
  constructor
  · rintro s a tag n hopen rfl
    refine ⟨fun hn => ?_, fun h1 h2 hnone => ?_, fun h1 h2 hsome => ?_, fun j record h1 h2 hj hrecord => ?_⟩
    · exact exec_cancelJob s tag n _ ⟨.badField, []⟩ hopen (askCancel_badField _ n hn) rfl
    · exact exec_cancelJob s tag n _ ⟨.noSuchJob, []⟩ hopen
        (by rw [askCancel_inRange _ n h1 h2, hnone]; rfl) rfl
    · obtain ⟨j, hj⟩ := Option.ne_none_iff_exists'.1 hsome
      obtain ⟨quiet, hexec⟩ := exec_cancelJob_done s tag n hopen h1 h2 hj
      obtain ⟨x, l, e⟩ := endJob_cancelled_fields (s.taken []) hj
      exact ⟨_, hexec, quiet.job_none (endJob_cancelled_job _ hj), quiet.told (by rw [e]; rfl), rfl, rfl, rfl,
        rfl⟩
    · obtain ⟨-, hexec⟩ := exec_cancelJob_done s tag n hopen h1 h2 hj
      obtain ⟨back, forth⟩ := endJob_cancelled_jobs _ hj
      obtain ⟨x, l, e⟩ := endJob_cancelled_fields (s.taken []) hj
      have hposted : setGap (s.taken []).gapPending (closingRecord j .cancelled) = record := by
        rw [hrecord, ← job_number _ hj]
        exact setGap_closingRecord j _
      refine ⟨_, hexec, ?_, endJob_cancelled_job _ hj, fun k hk => ?_, fun x hx hn => ?_,
        fun i => ?_, fun v => ?_⟩
      · rw [e, State.cancelled, hposted]
      · obtain ⟨x, hx, -, hxk⟩ := back k hk
        exact ⟨x, hx, hxk⟩
      · obtain ⟨k, hk, hxk, -⟩ := forth x hx hn
        exact ⟨k, hk, hxk⟩
      · exact endJob_cancelled_slot _ hj i
      · rw [e]
        exact Table.get_map ..
  · intro s g n d noise hopen hg hab hh
    refine ⟨fun ⟨head, sector, ho⟩ => ?_, fun ⟨head, ho⟩ => ⟨?_, ?_⟩⟩
    · rw [exec_streamChecked_sector s hopen hg d noise hh ho, jobStream_abandoned _ hab]
      rfl
    · rw [exec_streamChecked_track s hopen hg d noise hh ho, trackStream_abandoned _ hab]
      rfl
    · rw [exec_revolutionEnd_track s hopen hg noise hh ho, closeReadTrack_abandoned _ hab]
      rfl

end Sys2Proof.Machine
end

section
/-! SUPPORT. The streams of the relay's reads that make no job (R13, R29 to R32). -/

namespace Sys2Proof.Machine

variable {s : State}

/-! ### An answer (R19, R33) -/

/-- A job but for what the controller's answer takes from it or gives it. -/
def Job.answered (j : Job) : Job := { j with foreground := false, pin := none, heldRevs := 0 }

/-- `t` is `s` once the current operation `op` has been answered with `a`. -/
structure Answered (op : ControllerOp) (a : Answer) (s t : State) : Prop where
  fields : ∃ u l, t = { s with
    units := u, jobs := l, current := none, items := s.items.filter fun i => !i.isOperation
    out := s.out ++ [.answer op.unit a] }
  unit : ∀ v, t.unit v = if v = op.unit then { s.unit v with hold := none } else s.unit v
  jobs : JobsAlike Job.answered s t

theorem endHold_fields (s : State) (u : UnitNo) : ∃ x l, endHold u s = { s with units := x, jobs := l } ∧
    (∀ v, (endHold u s).unit v = if v = u then { s.unit v with hold := none } else s.unit v) ∧
    JobsAlike Job.answered s (endHold u s) := by
  have hunit := fun v => modUnit_unit s u v fun e => { e with hold := none }
  obtain ⟨h, e⟩ | ⟨_, j, -, -, -, e⟩ | ⟨_, -, -, e⟩ := endHold_cases s u _ rfl
  · refine ⟨_, _, e, fun v => ?_, by rw [e]; rfl⟩
    rw [e]
    split
    · subst_vars
      rw [← h]
    · rfl
  · exact ⟨_, _, e, fun v => by rw [e]; exact hunit v, e ▸ JobsAlike.modJob (s := s) rfl fun _ => rfl⟩
  · exact ⟨_, _, e, fun v => by rw [e]; exact hunit v, e ▸ rfl⟩

theorem releaseForeground_fields (s : State) : ∃ l, releaseForeground s = { s with jobs := l } ∧
    JobsAlike Job.answered s (releaseForeground s) := by
  obtain ⟨-, e⟩ | ⟨j, -, e⟩ := releaseForeground_cases s
  · exact ⟨_, e, by rw [e]; rfl⟩
  · exact ⟨_, e, e ▸ JobsAlike.modJob (s := s) rfl fun _ => rfl⟩

theorem answerCurrent_answered {op : ControllerOp} (a : Answer) (h : s.current = some op) :
    Answered op a s (answerCurrent a s) := by
  obtain ⟨x, l, eh, hunit, hjobs⟩ := endHold_fields (emit (.answer op.unit a) s) op.unit
  obtain ⟨k, ef, hback⟩ := releaseForeground_fields (endHold op.unit (emit (.answer op.unit a) s))
  have e : answerCurrent a s =
      clearOperation (releaseForeground (endHold op.unit (emit (.answer op.unit a) s))) := by
    rw [answerCurrent, h]
  refine ⟨⟨x, k, ?_⟩, fun v => ?_, ?_⟩
  · rw [e, ef, eh]
    rfl
  · rw [e, ef]
    exact hunit v
  · rw [e]
    exact hjobs.trans hback

/-- Once an operation has been answered, and the jobs have found where they stand unseen, the answer is all
that has gone up; hold, operation and grant have ended, no counter has advanced and no job has been made. -/
theorem Answered.quiet {op : ControllerOp} {a : Answer} {t r : State} (h : Answered op a s t) (q : Quiet t r)
    (hgrant : s.grant = none) :
    r.out = s.out ++ [.answer op.unit a] ∧ r.current = none ∧ r.grant = none ∧
      (r.unit op.unit).hold = none ∧ (∀ v, (r.unit v).counters = (s.unit v).counters) ∧
      ∀ j ∈ r.jobList, ∃ x ∈ s.jobList, x.number = j.number := by
  obtain ⟨u, l, e⟩ := h.fields
  refine ⟨by rw [q.out, e], q.current, q.grant (by rw [e]; exact hgrant), ?_, fun v => ?_, fun j hj => ?_⟩
  · rw [(q.face op.unit).1, h.unit, if_pos rfl]
  · rw [(q.face v).2, h.unit]
    split <;> rfl
  · obtain ⟨k, hk, hkj⟩ := q.numbers j hj
    obtain ⟨x, hx, hxk⟩ := h.jobs.number (fun _ => rfl) hk
    exact ⟨x, hx, hxk.trans hkj⟩

/-! ### Slots closed and given back (R12, R65, R67) -/

/-- `t` is `s` but for the slots of `l`, which keep their owner or have none, and for the reservations of its
jobs. -/
structure Touched (l : List SlotId) (s t : State) : Prop where
  fields : ∃ x y, t = { s with slots := x, jobs := y }
  jobs : JobsAlike Job.unreserved s t
  others : ∀ i, i ∉ l → t.slot i = s.slot i
  owner : ∀ i, (t.slot i).owner = (s.slot i).owner ∨ (t.slot i).owner = none

namespace Touched

variable {l : List SlotId} {t r : State}

theorem refl : Touched l s s := ⟨⟨_, _, rfl⟩, rfl, fun _ _ => rfl, fun _ => .inl rfl⟩

theorem trans (h : Touched l s t) (g : Touched l t r) : Touched l s r where
  fields := by
    obtain ⟨_, _, ht⟩ := h.fields
    obtain ⟨x, y, hr⟩ := g.fields
    exact ⟨x, y, by rw [hr, ht]⟩
  jobs := h.jobs.trans g.jobs
  others i hi := (g.others i hi).trans (h.others i hi)
  owner i := (g.owner i).elim (fun e => (h.owner i).imp e.trans e.trans) .inr

theorem modSlot {i : SlotId} (h : i ∈ l) (f : Slot → Slot) (hf : ∀ x, (f x).owner = x.owner) :
    Touched l s (modSlot i f s) where
  fields := ⟨_, _, rfl⟩
  jobs := rfl
  others k hk := modSlot_slot_ne s f fun e => hk (e ▸ h)
  owner k := by
    by_cases e : k = i
    · subst e
      rw [modSlot_slot_same]
      exact .inl (hf _)
    · rw [modSlot_slot_ne s f e]
      exact .inl rfl

theorem releaseSlot {i : SlotId} (h : i ∈ l) : Touched l s (releaseSlot i s) where
  fields := ⟨_, _, releaseSlot_eq s i⟩
  jobs := releaseSlot_jobsAlike s i
  others k hk := by
    have e : k ≠ i := fun e => hk (e ▸ h)
    simp [releaseSlot_slot, e]
  owner k := by
    rw [releaseSlot_slot]
    split
    · exact .inr rfl
    · exact .inl rfl

/-- The relay is given no slot. -/
theorem quiet (h : Touched l s t) (hc : s.current = none) : Quiet s t := by
  obtain ⟨x, y, rfl⟩ := h.fields
  exact { Quiet.refl hc with
    numbers := fun j hj => h.jobs.number (fun _ => rfl) hj
    relay := fun i hi => (h.owner i).elim (fun e => by rwa [e]) fun e => by rw [e]; nofun }

theorem sectorJob_none (h : Touched l s t) {a : Addr} (ha : s.sectorJob a = none) : t.sectorJob a = none := by
  have hmap : (t.sectorJob a).map Job.unreserved = (s.sectorJob a).map Job.unreserved :=
    h.jobs.find _ fun _ => rfl
  rw [ha] at hmap
  exact Option.map_eq_none_iff.1 hmap

theorem releaseOption {slot : Option SlotId} (h : ∀ i ∈ slot, i ∈ l) : Touched l s (releaseOption slot s) := by
  cases slot with
  | none => exact refl
  | some i => exact releaseSlot (h i rfl)

end Touched

/-- The stream's words stand in the slot, when there are any (R7). -/
def storeStream (i : SlotId) (d : Delivery) (s : State) : State :=
  match deliveredWords d with
  | none => s
  | some words => modSlot i (fun x => { x with words := words.map storeWord }) s

theorem Touched.storeStream {l : List SlotId} {i : SlotId} (h : i ∈ l) (d : Delivery) :
    Touched l s (storeStream i d s) := by
  unfold Machine.storeStream
  split
  · exact .refl
  · exact .modSlot h _ fun _ => rfl

theorem closeSlot_unkept (i : SlotId) (a : Addr) (d : Delivery) (f : Finding) (s : State)
    (hf : keptOutcome f.outcome = false) : closeSlot i a d f s = releaseSlot i (storeStream i d s) := by
  unfold closeSlot storeStream
  cases deliveredWords d <;> simp [hf]

theorem Touched.closeOption {l : List SlotId} {slot : Option SlotId} (h : ∀ i ∈ slot, i ∈ l) (a : Addr)
    (d : Delivery) (f : Finding) : Touched l s (closeOption slot a d f s) := by
  cases slot with
  | none => exact .refl
  | some i =>
    have hi : i ∈ l := h i rfl
    cases hf : keptOutcome f.outcome with
    | false =>
      rw [Machine.closeOption, closeSlot_unkept i a d f s hf]
      exact (Touched.storeStream hi d).trans (.releaseSlot hi)
    | true =>
      have e : closeSlot i a d f s = Machine.modSlot i (fun x => { x with
          state := .held, addr := some a, outcome := some f.outcome, dropout := f.dropout,
          received := f.received, headerBad := f.headerBad, sums := f.sums }) (Machine.storeStream i d s) := by
        unfold closeSlot Machine.storeStream
        cases deliveredWords d <;> simp [hf]
      rw [Machine.closeOption, e]
      exact (Touched.storeStream hi d).trans (.modSlot hi _ fun _ => rfl)

/-- A slot whose stream has been closed, and which then goes back where it was kept, has no owner. -/
theorem releaseOption_closeOption_owner (i : SlotId) (a : Addr) (d : Delivery) (f : Finding) (s : State) :
    ((releaseOption (keptSlot f (some i)) (closeOption (some i) a d f s)).slot i).owner = none := by
  unfold keptSlot
  cases hf : keptOutcome f.outcome with
  | false =>
    change ((closeSlot i a d f s).slot i).owner = none
    rw [closeSlot_unkept i a d f s hf]
    exact releaseSlot_owner _ i
  | true => exact releaseSlot_owner _ i

/-! ### The end of a stream that makes no job (R25, R29, R31, R32) -/

/-- Of such a read no job is made: it is outside the geometry or straight, or of an owned address whose job has
gone, or CLEAN, of a pass read or abandoned. -/
def MakesNoJob (k : ReadKind) (abandoned : Bool) (a : Addr) (o : CheckOutcome) (s : State) : Prop :=
  k = .outside ∨ k = .straight ∨ k = .held ∨ k = .owned ∧ (s.sectorJob a = none ∨ abandoned = true ∧ o = .clean) ∨
    k = .pass ∧ o = .clean

theorem MakesNoJob.mono {k : ReadKind} {abandoned : Bool} {a : Addr} {o : CheckOutcome} {t : State}
    (h : MakesNoJob k abandoned a o s) (ht : s.sectorJob a = none → t.sectorJob a = none) :
    MakesNoJob k abandoned a o t := by
  obtain rfl | rfl | rfl | ⟨rfl, hj⟩ | h := h
  · exact .inl rfl
  · exact .inr (.inl rfl)
  · exact .inr (.inr (.inl rfl))
  · exact .inr (.inr (.inr (.inl ⟨rfl, hj.imp_left ht⟩)))
  · exact .inr (.inr (.inr (.inr h)))

/-- The report of a read that makes no job gives back the slot at most. -/
theorem relayReport_noJob {k : ReadKind} {abandoned : Bool} {a : Addr} {f : Finding} {slot : Option SlotId}
    (h : MakesNoJob k abandoned a f.outcome s) : relayReport k false abandoned a f slot s =
      if k = .pass ∨ k = .owned then releaseOption (keptSlot f slot) s else s := by
  obtain rfl | rfl | rfl | ⟨rfl, hj | ⟨hab, hf⟩⟩ | ⟨rfl, hf⟩ := h
  · rfl
  · rfl
  · rfl
  · simp [relayReport, ownedReport, hj]
  · cases hj : s.sectorJob a <;> simp [relayReport, ownedReport, hj, hab, hf]
  · simp [relayReport, passReport, hf]

/-- What the relay does at a stream's end once its words have gone up, or are not to go up. -/
def reportStream (g : Grant) (k : ReadKind) (waits : Bool) (head sector : Nat) (d : Delivery) (s : State) :
    State :=
  let f := judge g.cyl head sector d
  let a : Addr := ⟨g.unit, g.cyl, head, sector⟩
  if !s.examines g.unit then releaseOption g.slots.head? s
  else relayReport k waits g.abandoned a f g.slots.head? (closeOption g.slots.head? a d f s)

/-- The controller waits for the check of the read (R30). -/
def State.waitsForCheck (s : State) (g : Grant) (k : ReadKind) : Bool :=
  s.examines g.unit && !g.abandoned && !sentUp k g.slots.head? (s.unit g.unit).geometry.mode

theorem relayStream_eq (g : Grant) (k : ReadKind) (head sector : Nat) (d : Delivery) (s : State) :
    relayStream g k head sector d s = reportStream g k (s.waitsForCheck g k) head sector d
      (if s.waitsForCheck g k || g.abandoned then { s with grant := none }
        else answerCurrent (deliveryAnswer d) { s with grant := none }) := rfl

theorem Touched.reportStream_noJob {g : Grant} {k : ReadKind} {head sector : Nat} {d : Delivery}
    (h : s.examines g.unit = true → MakesNoJob k g.abandoned ⟨g.unit, g.cyl, head, sector⟩
      (judge g.cyl head sector d).outcome s) :
    Touched g.slots s (reportStream g k false head sector d s) ∧
      ∀ i, k = .pass ∨ k = .owned → g.slots = [i] →
        ((reportStream g k false head sector d s).slot i).owner = none := by
  have hslot : ∀ i ∈ g.slots.head?, i ∈ g.slots := fun i hi => List.mem_of_head? hi
  unfold reportStream
  cases he : s.examines g.unit with
  | false =>
    refine ⟨.releaseOption hslot, fun i _ hi => ?_⟩
    rw [hi]
    exact releaseSlot_owner s i
  | true =>
    have closed := Touched.closeOption (s := s) hslot ⟨g.unit, g.cyl, head, sector⟩ d
      (judge g.cyl head sector d)
    simp only [Bool.not_true, Bool.false_eq_true, if_false]
    rw [relayReport_noJob ((h he).mono closed.sectorJob_none)]
    refine ⟨?_, fun i hk hi => ?_⟩
    · split
      · refine closed.trans (.releaseOption fun i hi => hslot i ?_)
        unfold keptSlot at hi
        split at hi
        · exact hi
        · cases hi
      · exact closed
    · rw [if_pos hk, hi]
      exact releaseOption_closeOption_owner ..

/-- Words that go up as they come leave the controller nothing to wait for. -/
theorem waitsForCheck_of_sentUp {g : Grant} {k : ReadKind}
    (h : sentUp k g.slots.head? (s.unit g.unit).geometry.mode = true) : s.waitsForCheck g k = false := by
  simp [State.waitsForCheck, h]

theorem waitsForCheck_of_absent {g : Grant} {k : ReadKind} (h : (s.unit g.unit).geometry.present = false) :
    s.waitsForCheck g k = false := by
  simp [State.waitsForCheck, State.examines, h]

theorem waitsForCheck_of_abandoned {g : Grant} {k : ReadKind} (h : g.abandoned = true) :
    s.waitsForCheck g k = false := by
  simp [State.waitsForCheck, h]

/-! ### A CLEAN capture read back (R30, R68) -/

theorem length_of_deliveredWords {d : Delivery} {words : List Word} (h : deliveredWords d = some words) :
    words.length = 260 := by
  have hlen : ∀ l : List Word, (streamWords l).length = 260 := fun l => by
    rw [streamWords, List.length_take, List.length_append, List.length_replicate]
    omega
  cases d with
  | noData => cases h
  | complete l => exact Option.some.inj h ▸ hlen l
  | clockLost w l => exact Option.some.inj h ▸ hlen l

theorem map_readStored_healthy (l : List Word) (k : Nat) :
    (((l.map storeWord).zipIdx k).map fun p => readStored [] p.2 p.1) = l.map some := by
  induction l generalizing k with
  | nil => rfl
  | cons w l ih => simp [ih]

/-- Healthy cells that hold a whole stream give back its data words, and count nothing against the bank. -/
theorem readData_healthy {i : SlotId} {words : List Word} (hw : (s.slot i).words = words.map storeWord)
    (hlen : words.length = 260) (hn : s.noise = []) : readData i s = (some (dataOf words), s) := by
  have hcells : (((s.slot i).words ++ List.replicate 260 (storeWord 0)).drop 3).take 256 =
      (dataOf words).map storeWord := by
    rw [hw, List.drop_append_of_le_length (by simp [hlen]), List.take_append_of_le_length (by simp [hlen]),
      dataOf, List.map_take, List.map_drop]
  have hread : (readSlot i 3 256 s).1 = (dataOf words).map some := by
    simp only [readSlot, State.nextNoise, hn, hcells]
    exact map_readStored_healthy _ 3
  have hall : (readSlot i 3 256 s).1.all Option.isSome = true := by simp [hread]
  obtain ⟨-, e⟩ | ⟨hnot, -⟩ := readSlot_cases s i 3 256
  · have hs : (readSlot i 3 256 s).2 = s := by
      rw [e, hn, List.tail_nil, ← hn]
    rw [readData, hs, allWords, if_pos hall, hread]
    simp
  · exact absurd hall (by simp [hnot])

/-- A kept stream's capture is read back from healthy cells word for word. -/
theorem readData_captured {i : SlotId} {a : Addr} {d : Delivery} {f : Finding} {words : List Word}
    (hd : deliveredWords d = some words) (hn : s.noise = []) :
    readData i (modSlot i (fun x => x.captured a d f) s) =
      (some (dataOf words), modSlot i (fun x => x.captured a d f) s) :=
  readData_healthy (by rw [modSlot_slot_same, Slot.captured, hd]; rfl) (length_of_deliveredWords hd) hn

theorem checkedReport_clean {a : Addr} {f : Finding} {i : SlotId} {op : ControllerOp} {data : List Word}
    (hf : f.outcome = .clean) (hcur : s.current = some op) (hread : readData i s = (some data, s)) :
    checkedReport a f i s = releaseSlot i (answerCurrent (composedAnswer op data) s) := by
  simp [checkedReport, hf, hread, answerData, hcur]

theorem sentAnswer_eq (d : Delivery) : sentAnswer d = deliveryAnswer d := by
  unfold sentAnswer deliveryAnswer
  cases deliveredWords d <;> rfl

/-! ### What the ends of the relay's streams come to -/

/-- A read that does not wait for its check, and makes no job, goes up as the drive answered. -/
theorem relayStream_sentUp {g : Grant} {k : ReadKind} {op : ControllerOp} {head sector : Nat} {d : Delivery}
    (hab : g.abandoned = false) (hcur : s.current = some op) (hwaits : s.waitsForCheck g k = false)
    (h : (s.unit g.unit).geometry.present = true → MakesNoJob k false ⟨g.unit, g.cyl, head, sector⟩
      (judge g.cyl head sector d).outcome s) :
    ∃ t, Answered op (sentAnswer d) { s with grant := none } t ∧
      Quiet t (endCommand (settleJobs (relayStream g k head sector d s))) ∧
      ∀ i, k = .pass ∨ k = .owned → g.slots = [i] →
        ((endCommand (settleJobs (relayStream g k head sector d s))).slot i).owner ≠ some .relay := by
  have answered := answerCurrent_answered (s := { s with grant := none }) (deliveryAnswer d) hcur
  rw [relayStream_eq, hwaits, hab, sentAnswer_eq]
  generalize answerCurrent (deliveryAnswer d) { s with grant := none } = t at answered
  have hidle : t.current = none := by
    obtain ⟨u, l, e⟩ := answered.fields
    rw [e]
  have hnojob : t.examines g.unit = true → MakesNoJob k g.abandoned ⟨g.unit, g.cyl, head, sector⟩
      (judge g.cyl head sector d).outcome t := fun hexamines => by
    have hpresent : (s.unit g.unit).geometry.present = true := by
      rw [State.examines, answered.unit] at hexamines
      split at hexamines <;> exact hexamines
    rw [hab]
    refine (h hpresent).mono fun hj => ?_
    have hmap : (t.sectorJob ⟨g.unit, g.cyl, head, sector⟩).map Job.answered =
        (s.sectorJob ⟨g.unit, g.cyl, head, sector⟩).map Job.answered := answered.jobs.find _ fun _ => rfl
    rw [hj] at hmap
    exact Option.map_eq_none_iff.1 hmap
  obtain ⟨touched, howner⟩ := Touched.reportStream_noJob hnojob
  have settled := (Quiet.refl ((touched.quiet hidle).current)).settleJobs.endCommand
  refine ⟨t, answered, (touched.quiet hidle).trans settled, fun i hk hi => settled.relay i ?_⟩
  simp [howner i hk hi]

/-- A CLEAN pass read that was waited for, its capture read back, goes up composed, and gives its slot back. -/
theorem relayStream_clean {g : Grant} {op : ControllerOp} {head sector : Nat} {d : Delivery} {i : SlotId}
    {words : List Word} (hcur : s.current = some op) (hslots : g.slots = [i]) (hnoise : s.noise = [])
    (hwaits : s.waitsForCheck g .pass = true) (hpresent : (s.unit g.unit).geometry.present = true)
    (hclean : (judge g.cyl head sector d).outcome = .clean) (hwords : deliveredWords d = some words) :
    ∃ f t, Answered op (composedAnswer op (dataOf words)) (modSlot i f { s with grant := none }) t ∧
      relayStream g .pass head sector d s = releaseSlot i t := by
  have hclosed := closeSlot_kept { s with grant := none } i ⟨g.unit, g.cyl, head, sector⟩ d
    (judge g.cyl head sector d) words hwords (by rw [hclean]; rfl)
  have hexamines : State.examines { s with grant := none } g.unit = true := hpresent
  refine ⟨fun x => x.captured ⟨g.unit, g.cyl, head, sector⟩ d (judge g.cyl head sector d), _,
    answerCurrent_answered _ hcur, ?_⟩
  rw [relayStream_eq, hwaits, reportStream, hslots]
  simp only [Bool.true_or, if_true, hexamines, Bool.not_true, Bool.false_eq_true, if_false, List.head?_cons,
    relayReport, closeOption, hclosed]
  exact checkedReport_clean hclean hcur (readData_captured hwords hnoise)

/-- Settles O29: the answer, the slot closed and given back, and then the jobs' finding where they stand, which
nothing current makes unseen. -/
theorem cleanReadDelivered : Obligations.CleanReadDelivered := by
  intro s g d head sector kind hopen hg hh ho
  have hexec := fun noise => exec_streamChecked_relay s hopen hg d noise hh ho
  refine ⟨fun op i words hab hcur hu hk hslots hpresent hmode hclean hwords => ?_,
    fun op noise hab hcur hu hcase => ?_, fun noise hab hcase => ?_⟩
  · subst hk
    have hwaits : (beginCommand [] s).waitsForCheck g .pass = true := by
      have hup : sentUp .pass g.slots.head? ((beginCommand [] s).unit g.unit).geometry.mode = false := by
        rw [hslots]
        exact decide_eq_false (hmode ▸ nofun)
      rw [State.waitsForCheck, hab, hup, Bool.not_false, Bool.and_true, Bool.and_true]
      exact hpresent
    obtain ⟨f, t, answered, e⟩ := relayStream_clean (s := beginCommand [] s) (d := d) (head := head)
      (sector := sector) hcur hslots rfl hwaits hpresent hclean hwords
    have hidle : t.current = none := by
      obtain ⟨u, l, ht⟩ := answered.fields
      rw [ht]
    have touched : Touched [i] t (releaseSlot i t) := .releaseSlot List.mem_cons_self
    have settled := (Quiet.refl ((touched.quiet hidle).current)).settleJobs.endCommand
    obtain ⟨hout, hnone, hgrant, hhold, hcount, hjobs⟩ :=
      answered.quiet ((touched.quiet hidle).trans settled) rfl
    refine ⟨_, hexec [], ?_⟩
    rw [e]
    rw [hu] at hout hhold
    exact ⟨hout, hnone, hgrant, hhold, hcount, hjobs, fun _ => settled.relay i
      (by simp [releaseSlot_owner])⟩
  · have hwaits : (beginCommand noise s).waitsForCheck g kind = false := by
      obtain rfl | rfl | ⟨-, hp⟩ | ⟨rfl, -⟩ | ⟨rfl, -, hs | hm⟩ := hcase
      · exact waitsForCheck_of_sentUp rfl
      · exact waitsForCheck_of_sentUp rfl
      · exact waitsForCheck_of_absent hp
      · exact waitsForCheck_of_sentUp rfl
      · exact waitsForCheck_of_sentUp (by simp [sentUp, hs])
      · refine waitsForCheck_of_sentUp (Bool.or_eq_true_iff.2 (.inr (decide_eq_true hm)))
    obtain ⟨t, answered, quiet, howner⟩ := relayStream_sentUp (s := beginCommand noise s) (d := d)
      (head := head) (sector := sector) hab hcur hwaits fun hpresent => by
        obtain rfl | rfl | ⟨-, hp⟩ | ⟨rfl, hj⟩ | ⟨rfl, hclean, -⟩ := hcase
        · exact .inl rfl
        · exact .inr (.inl rfl)
        · exact absurd (hp.symm.trans hpresent) (by decide)
        · exact .inr (.inr (.inr (.inl ⟨rfl, .inl hj⟩)))
        · exact .inr (.inr (.inr (.inr ⟨rfl, hclean⟩)))
    obtain ⟨hout, hnone, hgrant, hhold, hcount, hjobs⟩ := answered.quiet quiet rfl
    rw [hu] at hout hhold
    exact ⟨_, hexec noise, hout, hnone, hgrant, hhold, hcount, hjobs,
      fun i hk hi _ => howner i hk hi⟩
  · have hnojob : State.examines { beginCommand noise s with grant := none } g.unit = true →
        MakesNoJob kind g.abandoned ⟨g.unit, g.cyl, head, sector⟩ (judge g.cyl head sector d).outcome
          { beginCommand noise s with grant := none } := fun hpresent => by
      obtain rfl | rfl | hp | ⟨rfl, hj⟩ | ⟨rfl | rfl, hclean⟩ := hcase
      · exact .inl rfl
      · exact .inr (.inl rfl)
      · exact absurd (hp.symm.trans hpresent) (by decide)
      · exact .inr (.inr (.inr (.inl ⟨rfl, .inl hj⟩)))
      · exact .inr (.inr (.inr (.inr ⟨rfl, hclean⟩)))
      · exact .inr (.inr (.inr (.inl ⟨rfl, .inr ⟨hab, hclean⟩⟩)))
    obtain ⟨touched, howner⟩ := Touched.reportStream_noJob hnojob
    obtain ⟨x, y, e⟩ := touched.fields
    have hstream := relayStream_eq g kind head sector d (beginCommand noise s)
    rw [waitsForCheck_of_abandoned hab, hab, Bool.false_or, if_pos rfl] at hstream
    refine ⟨_, hexec noise, ?_⟩
    rw [hstream]
    exact ⟨by rw [e]; rfl, touched.jobs, touched.others, fun i hk hi _ => howner i hk hi⟩

end Sys2Proof.Machine
end

section
/-! SUPPORT. The streams of a READ TRACK (R11, R129, R130), and the end of a revolution after which the job
reads on (R131). -/

namespace Sys2Proof.Machine

variable {s : State}

/-! ### A first CLEAN capture told of (R36, R129, R134) -/

/-- A job but for its reservation and for what the controller's answer takes from it or gives it. -/
def Job.settledBeside (j : Job) : Job :=
  { j with foreground := false, pin := none, heldRevs := 0, reservation := 0 }

/-- The relay has been told of a capture: it may have read one out and answered the controller; the grant, the
slots in use and the rest of the jobs are as they were. -/
structure Told (s t : State) : Prop where
  grant : t.grant = s.grant
  used : ∀ i, (s.slot i).state ≠ .free → t.slot i = s.slot i
  jobs : JobsAlike Job.settledBeside s t

namespace Told

theorem refl : Told s s := ⟨rfl, fun _ _ => rfl, rfl⟩

theorem trans {t r : State} (h : Told s t) (g : Told t r) : Told s r where
  grant := g.grant.trans h.grant
  used i hi := (g.used i (h.used i hi ▸ hi)).trans (h.used i hi)
  jobs := h.jobs.trans g.jobs

theorem readOut {t : State} (h : ReadOut s t) : Told s t where
  grant := by
    obtain ⟨_, _, _, _, _, e⟩ := h.fields
    rw [e]
  used := h.used
  jobs := h.jobs.coarsen _ fun _ => rfl

theorem answerCurrent (a : Answer) : Told s (answerCurrent a s) := by
  cases h : s.current with
  | none =>
    rw [answerCurrent_none a h]
    exact refl
  | some op =>
    have answered := answerCurrent_answered a h
    obtain ⟨u, l, e⟩ := answered.fields
    exact ⟨by rw [e], fun i _ => by rw [e]; rfl, answered.jobs.coarsen _ fun _ => rfl⟩

theorem answerData (data : List Word) : Told s (answerData data s) := by
  unfold Machine.answerData
  split
  · exact refl
  · exact answerCurrent _

theorem deliverFirstClean : Told s (deliverFirstClean s) := by
  unfold Machine.deliverFirstClean
  split
  · split
    · split
      · exact refl
      · rename_i i _
        have read := readOut (readOut_readData s i)
        split
        · rename_i data t e
          rw [e] at read
          exact read.trans (answerData data)
        · rename_i t e
          rwa [e] at read
    · exact refl
  · exact refl

theorem tellFirstClean (n k : Nat) : Told s (tellFirstClean n k s) := by
  unfold Machine.tellFirstClean
  split
  · split
    · exact deliverFirstClean
    · exact refl
  · exact refl

end Told

/-! ### A stream of a READ TRACK (R129, R130) -/

theorem modJob_job_some {n : Nat} {j : Job} (hj : s.job n = some j) (f : Job → Job)
    (hf : ∀ j, (f j).number = j.number) : (modJob n f s).job n = some (f j) := by
  rw [modJob_job s n f hf, hj]
  rfl

theorem modRow_job {n : Nat} {j : Job} (hj : s.job n = some j) (k : Nat) (f : SectorRow → SectorRow) :
    (modRow n k f s).job n = some { j with rows := j.rows.set k (f (rowOf j k)) } := by
  unfold modRow
  exact modJob_job_some hj _ (by intro; rfl)

theorem setCredit_slot (i : SlotId) (credit : Nat) (s : State) :
    (setCredit i credit s).slot i = { s.slot i with credit := some credit } := modSlot_slot_same ..

/-- A capture filed under a sector whose list has room joins the list with the read's credit (R129). -/
theorem fileCapture_room {n k : Nat} {i : SlotId} {clean : Bool} {j : Job} (hj : s.job n = some j)
    (hroom : (rowOf j k).list.length < j.revsRequested) :
    Told (modRow n k (fileRow i clean) (setCredit i j.readCredit s)) (fileCapture n k i clean s) := by
  simp only [fileCapture, hj, if_neg (Nat.not_le.2 hroom)]
  split
  · exact .tellFirstClean n k
  · exact .refl

theorem fileCapture_full {n k : Nat} {i : SlotId} {clean : Bool} {j : Job} (hj : s.job n = some j)
    (hfull : j.revsRequested ≤ (rowOf j k).list.length) : fileCapture n k i clean s = releaseSlot i s := by
  simp only [fileCapture, hj, if_pos hfull]

/-- A row with one more capture filed, as R129 has it. -/
theorem fileRow_eq (i : SlotId) (clean : Bool) (r : SectorRow) : fileRow i clean r = { r with
    list := r.list ++ [i]
    firstFiled := if r.firstFiled = none then some i else r.firstFiled
    firstClean := if clean = true ∧ r.firstClean = none then some i else r.firstClean
    revsCaptured := r.revsCaptured + (if r.capturedNow then 0 else 1)
    capturedNow := true
    revsClean := r.revsClean + (if clean = true ∧ r.cleanNow = false then 1 else 0)
    cleanNow := r.cleanNow || clean } := by
  unfold fileRow
  congr 1
  · cases r.firstFiled <;> rfl
  · cases clean <;> cases r.firstClean <;> rfl
  · cases r.capturedNow <;> rfl
  · cases clean <;> cases r.cleanNow <;> rfl

/-- The stream at the next mark of the READ TRACK has come. -/
def passMark (g : Grant) (s : State) : State := { s with grant := some { g with nextMark := g.nextMark + 1 } }

/-- A stream of a READ TRACK that is filed, or counted where it names another track. -/
theorem trackStream_eq {n head : Nat} {g : Grant} {d : Delivery} {j : Job} {i : SlotId} {f : Finding}
    (hab : g.abandoned = false) (hpresent : (s.unit g.unit).geometry.present = true)
    (hj : s.job n = some j) (hi : g.slots[g.nextMark]? = some i)
    (hf : f = judgeTrack g.cyl head g.nextMark j.rows.length d) :
    trackStream n g head d s =
      if keptOutcome f.outcome then
        fileCapture n f.sector i (decide (f.outcome = .clean))
          (closeSlot i ⟨g.unit, g.cyl, head, f.sector⟩ d f (passMark g s))
      else if f.outcome = .wrongHeader ∧ (f.named.1 ≠ g.cyl ∨ f.named.2.1 ≠ head) then
        modJob n (fun j => { j with revOffTrack := j.revOffTrack + 1 })
          (releaseSlot i (storeStream i d (passMark g s)))
      else releaseSlot i (storeStream i d (passMark g s)) := by
  have hexamined : (g.abandoned || !s.examines g.unit) = false := by
    rw [hab, State.examines, hpresent]
    rfl
  subst hf
  unfold trackStream
  rw [hexamined, hj, hi]
  change (if keptOutcome (judgeTrack g.cyl head g.nextMark j.rows.length d).outcome then _ else if _ then
    modJob n _ (closeSlot i _ _ _ (passMark g s)) else closeSlot i _ _ _ (passMark g s)) = _
  cases hk : keptOutcome (judgeTrack g.cyl head g.nextMark j.rows.length d).outcome with
  | true => rfl
  | false => simp only [closeSlot_unkept _ _ _ _ _ hk, Bool.false_eq_true, if_false]

theorem keptOutcome_iff (o : CheckOutcome) :
    keptOutcome o = true ↔ o ∈ [CheckOutcome.clean, .headerCheck, .dataCheck, .dropout] := by
  cases o <;> simp [keptOutcome]

theorem delivered_of_kept {cyl head mark sectors : Nat} {d : Delivery}
    (h : keptOutcome (judgeTrack cyl head mark sectors d).outcome = true) :
    ∃ words, deliveredWords d = some words := by
  cases hd : deliveredWords d with
  | some words => exact ⟨words, rfl⟩
  | none => simp [judgeTrack, judge_noData hd, bareFinding, keptOutcome] at h

theorem storeStream_fields (i : SlotId) (d : Delivery) (s : State) :
    ∃ x, storeStream i d s = { s with slots := x } := by
  unfold storeStream
  split <;> exact ⟨_, rfl⟩

theorem trackStream_kept {n head : Nat} {g : Grant} {d : Delivery} {j : Job} {i : SlotId} {f : Finding}
    (hab : g.abandoned = false) (hpresent : (s.unit g.unit).geometry.present = true)
    (hj : s.job n = some j) (hi : g.slots[g.nextMark]? = some i)
    (hf : f = judgeTrack g.cyl head g.nextMark j.rows.length d) (hkept : keptOutcome f.outcome = true) :
    ∃ k, (trackStream n g head d s).grant = some { g with nextMark := g.nextMark + 1 } ∧
      (trackStream n g head d s).job n = some k ∧ k.revOffTrack = j.revOffTrack ∧
      (j.revsRequested ≤ (rowOf j f.sector).list.length → k.rows = j.rows) ∧
      ((rowOf j f.sector).list.length < j.revsRequested →
        (trackStream n g head d s).slot i = { (s.slot i).captured ⟨g.unit, g.cyl, head, f.sector⟩ d f with
          credit := some j.readCredit } ∧
        k.rows = j.rows.set f.sector (fileRow i (decide (f.outcome = .clean)) (rowOf j f.sector))) := by
  obtain ⟨words, hwords⟩ := delivered_of_kept (hf ▸ hkept)
  obtain ⟨c, hc⟩ : ∃ c, c = modSlot i (fun x => x.captured ⟨g.unit, g.cyl, head, f.sector⟩ d f)
    (passMark g s) := ⟨_, rfl⟩
  have hgrant : c.grant = some { g with nextMark := g.nextMark + 1 } := hc ▸ rfl
  have hjob : c.job n = some j := hc ▸ hj
  have hslot : c.slot i = (s.slot i).captured ⟨g.unit, g.cyl, head, f.sector⟩ d f :=
    hc ▸ modSlot_slot_same ..
  rw [trackStream_eq hab hpresent hj hi hf, if_pos hkept, closeSlot_kept _ i _ d f words hwords hkept, ← hc]
  obtain hroom | hfull := Nat.lt_or_ge (rowOf j f.sector).list.length j.revsRequested
  · have told := fileCapture_room (i := i) (clean := decide (f.outcome = .clean)) hjob hroom
    obtain ⟨k, hk, hkj⟩ := told.jobs.job_some (fun _ => rfl) (modRow_job (s := setCredit i j.readCredit c) hjob
      f.sector (fileRow i (decide (f.outcome = .clean))))
    have hcredit : (modRow n f.sector (fileRow i (decide (f.outcome = .clean)))
        (setCredit i j.readCredit c)).slot i =
        { (s.slot i).captured ⟨g.unit, g.cyl, head, f.sector⟩ d f with credit := some j.readCredit } :=
      (setCredit_slot ..).trans (by rw [hslot])
    exact ⟨k, told.grant.trans hgrant, hk, (congrArg Job.revOffTrack hkj :),
      fun hfull => absurd hroom (Nat.not_lt.2 hfull), fun _ =>
        ⟨(told.used i (by rw [hcredit]; nofun)).trans hcredit, (congrArg Job.rows hkj :)⟩⟩
  · obtain ⟨k, hk, hkj⟩ := (releaseSlot_jobsAlike c i).job_some (fun _ => rfl) hjob
    rw [fileCapture_full hjob hfull]
    exact ⟨k, by rw [releaseSlot_eq]; exact hgrant, hk, (congrArg Job.revOffTrack hkj :),
      fun _ => (congrArg Job.rows hkj :), fun hroom => absurd hroom (Nat.not_lt.2 hfull)⟩

theorem trackStream_unkept {n head : Nat} {g : Grant} {d : Delivery} {j : Job} {i : SlotId} {f : Finding}
    (hab : g.abandoned = false) (hpresent : (s.unit g.unit).geometry.present = true)
    (hj : s.job n = some j) (hi : g.slots[g.nextMark]? = some i)
    (hf : f = judgeTrack g.cyl head g.nextMark j.rows.length d) (hkept : keptOutcome f.outcome = false) :
    ∃ k, (trackStream n g head d s).grant = some { g with nextMark := g.nextMark + 1 } ∧
      (trackStream n g head d s).job n = some k ∧ k.rows = j.rows ∧
      ((trackStream n g head d s).slot i).owner = none ∧ k.revOffTrack = j.revOffTrack +
        (if f.outcome = .wrongHeader ∧ ¬(f.named.1 = g.cyl ∧ f.named.2.1 = head) then 1 else 0) := by
  obtain ⟨c, hc⟩ : ∃ c, c = storeStream i d (passMark g s) := ⟨_, rfl⟩
  obtain ⟨x, e⟩ := storeStream_fields i d (passMark g s)
  have hgrant : (releaseSlot i c).grant = some { g with nextMark := g.nextMark + 1 } := by
    rw [releaseSlot_eq, hc, e]
    rfl
  have howner := releaseSlot_owner c i
  obtain ⟨k, hk, hkj⟩ := (releaseSlot_jobsAlike c i).job_some (fun _ => rfl) (j := j) (n := n)
    (by rw [hc, e]; exact hj)
  have hrows : k.rows = j.rows := (congrArg Job.rows hkj :)
  have hoff : k.revOffTrack = j.revOffTrack := (congrArg Job.revOffTrack hkj :)
  have hother : f.outcome = .wrongHeader ∧ ¬(f.named.1 = g.cyl ∧ f.named.2.1 = head) ↔
      f.outcome = .wrongHeader ∧ (f.named.1 ≠ g.cyl ∨ f.named.2.1 ≠ head) := by rw [not_and_or]
  simp only [trackStream_eq hab hpresent hj hi hf, hkept, Bool.false_eq_true, if_false, hother, ← hc]
  split
  · exact ⟨_, hgrant, modJob_job_some hk _ fun _ => rfl, hrows, howner, congrArg (· + 1) hoff⟩
  · exact ⟨k, hgrant, hk, hrows, howner, hoff⟩

/-! ### The jobs while bank 0 is in service -/

/-- Job `n` has ended a revolution as `j` has it, and waits for the next (R77, R131); capture memory is not out
of service. -/
structure RevolutionOver (n : Nat) (j : Job) (t : State) : Prop where
  bank : t.bankRetired 0 = false
  grant : t.grant = none
  job : ∃ k, t.job n = some k ∧ k.revsDone = j.revsDone ∧ k.trackReseek = j.trackReseek ∧
    (k.state = .queued ∨ k.state = .awaiting) ∧ k.rows = j.rows

/-- No job ends for want of a slot while bank 0 is in service, so a job that waits for its next revolution
waits on. -/
theorem RevolutionOver.settleJobs {n : Nat} {j : Job} (h : RevolutionOver n j s) :
    RevolutionOver n j (settleJobs s) :=
  KeptBySettling.settleJobs (P := RevolutionOver n j)
    { job := fun m f t hf ht => by
        obtain ⟨k, hk, hdone, hreseek, hstate, hrows⟩ := ht.job
        have hnumber : ∀ j, (f j).number = j.number := fun j => by rw [(hf j).2]
        refine ⟨ht.bank, ht.grant, ?_⟩
        by_cases hm : n = m
        · subst hm
          obtain ⟨hmoved, e⟩ := hf k
          refine ⟨_, modJob_job_some hk f hnumber, ?_, ?_, ?_, ?_⟩
          · rw [e, ← hdone]
          · rw [e, ← hreseek]
          · exact hmoved.elim (fun e => e ▸ hstate) id
          · rw [e, ← hrows]
        · exact ⟨k, (modJob_job_ne t f hnumber hm).trans hk, hdone, hreseek, hstate, hrows⟩
      leave := fun _ _ ht => ⟨ht.bank, ht.grant, ht.job⟩
      free := fun _ _ ht => ⟨ht.bank, ht.grant, ht.job⟩
      fill := fun _ _ _ ht => ⟨ht.bank, ht.grant, ht.job⟩
      ended := fun _ t hretired ht => by simp [State.allRetired, ht.bank] at hretired } h

/-! ### The closing INDEX mark (R130, R131) -/

/-- `s` once the READ TRACK has left the cable, the slots that it has not filled have gone back, and the
revolution has been counted. -/
def closedRevolution (n : Nat) (g : Grant) (s : State) : State :=
  modJob n closeRevolution (releaseSlots (g.slots.drop g.nextMark) (clearOwner n g.unit { s with grant := none }))

theorem closeReadTrack_eq {n : Nat} {g : Grant} {j : Job} (hab : g.abandoned = false)
    (hj : (closedRevolution n g s).job n = some j) : closeReadTrack n g s =
      if j.revsDone < j.revsRequested ∧ j.rows.any (fun r => !r.superseded && r.firstClean.isNone) then
        requeue n id (closedRevolution n g s)
      else finalStage n (closedRevolution n g s) := by
  unfold closedRevolution at hj ⊢
  simp only [closeReadTrack, hab, Bool.false_eq_true, if_false, hj]

theorem closedRevolution_bank (n : Nat) (g : Grant) (s : State) :
    (closedRevolution n g s).bankRetired = s.bankRetired := by
  rw [closedRevolution, releaseSlots_eq]
  rfl

theorem closedRevolution_grant (n : Nat) (g : Grant) (s : State) : (closedRevolution n g s).grant = none := by
  rw [closedRevolution, releaseSlots_eq]
  rfl

theorem releaseSlots_jobsAlike (l : List SlotId) (s : State) :
    JobsAlike Job.unreserved s (releaseSlots l s) :=
  releaseSlots_induct s (JobsAlike Job.unreserved s) (fun i t h => h.trans (releaseSlot_jobsAlike t i)) l rfl

theorem closedRevolution_job {n : Nat} {j : Job} (g : Grant) (hj : s.job n = some j) :
    ∃ k, (closedRevolution n g s).job n = some (closeRevolution k) ∧ k.unreserved = j.unreserved := by
  obtain ⟨k, hk, hkj⟩ := (releaseSlots_jobsAlike (g.slots.drop g.nextMark)
    (clearOwner n g.unit { s with grant := none })).job_some (fun _ => rfl) hj
  exact ⟨k, modJob_job_some hk _ fun _ => rfl, hkj⟩

/-- A revolution after which another is left, and some sector has no CLEAN capture, leaves the job waiting for
the next one. -/
theorem closeReadTrack_goesOn {n : Nat} {g : Grant} {j : Job} {r : SectorRow} (hab : g.abandoned = false)
    (hj : s.job n = some j) (hleft : j.revsDone + 1 < j.revsRequested) (hr : r ∈ j.rows)
    (hsup : r.superseded = false) (hclean : r.firstClean = none) (hbank : s.bankRetired 0 = false) :
    RevolutionOver n (closeRevolution j) (closeReadTrack n g s) := by
  obtain ⟨k, hk, hkj⟩ := closedRevolution_job g hj
  have e := Job.eq_of_unreserved hkj
  have hgoes : (closeRevolution k).revsDone < (closeRevolution k).revsRequested ∧
      ((closeRevolution k).rows.any fun r => !r.superseded && r.firstClean.isNone) = true := by
    rw [e]
    exact ⟨hleft, List.any_eq_true.2 ⟨r, hr, by simp [hsup, hclean]⟩⟩
  rw [closeReadTrack_eq hab hk, if_pos hgoes]
  refine ⟨?_, closedRevolution_grant n g s, _, modJob_job_some hk _ (by intro; rfl), ?_, ?_, .inl rfl, ?_⟩
  · exact (congrFun (closedRevolution_bank n g s) 0).trans hbank
  all_goals rw [e]; rfl

end Sys2Proof.Machine
end

section
/-! SUPPORT. The end of a job leaves a free cable free and the job out of the table, whatever its ending and
whatever read is taken up again (R37, R87). -/

namespace Sys2Proof.Machine

variable {s : State}

/-- `t` has the grant of `s` and no job that was not in its table. -/
structure Still (s t : State) : Prop where
  grant : t.grant = s.grant
  numbers : ∀ j ∈ t.jobList, ∃ x ∈ s.jobList, x.number = j.number

namespace Still

variable {t r : State}

/-- What changes neither the grant nor the job table. -/
theorem of_eq (hg : t.grant = s.grant) (hj : t.jobs = s.jobs) : Still s t :=
  ⟨hg, fun j h => ⟨j, by rwa [State.jobList, hj] at h, rfl⟩⟩

theorem refl : Still s s := of_eq rfl rfl

theorem trans (h : Still s t) (g : Still t r) : Still s r where
  grant := g.grant.trans h.grant
  numbers j hj := by
    obtain ⟨k, hk, hkj⟩ := g.numbers j hj
    obtain ⟨x, hx, hxk⟩ := h.numbers k hk
    exact ⟨x, hx, hxk.trans hkj⟩

/-- What begins from a state with the same grant and job table. -/
theorem after (h : Still r t) (hg : r.grant = s.grant) (hj : r.jobs = s.jobs) : Still s t :=
  (of_eq hg hj).trans h

/-- The jobs told alike by their numbers. -/
theorem of_jobsAlike {g : Job → Job} (hg : t.grant = s.grant) (h : JobsAlike g s t)
    (hn : ∀ j, (g j).number = j.number) : Still s t := ⟨hg, fun _ hj => h.number hn hj⟩

theorem job_none (h : Still s t) {n : Nat} (hn : s.job n = none) : t.job n = none := by
  refine List.find?_eq_none.2 fun j hj hjn => ?_
  obtain ⟨x, hx, hxj⟩ := h.numbers j hj
  exact List.find?_eq_none.1 hn x hx (by simpa [hxj] using hjn)

theorem told (h : Told s t) : Still s t := of_jobsAlike h.grant h.jobs fun _ => rfl

theorem answerCurrent (a : Answer) : Still s (answerCurrent a s) := told (.answerCurrent a)

theorem answerData (data : List Word) : Still s (answerData data s) := told (.answerData data)

theorem dropHold : Still s (dropHold s) := by
  unfold Machine.dropHold
  split
  · exact refl
  · rename_i op _
    obtain ⟨x, l, eh, -, hhold⟩ := endHold_fields s op.unit
    obtain ⟨k, ef, hback⟩ := releaseForeground_fields (endHold op.unit s)
    exact of_jobsAlike (by rw [ef, eh]) (hhold.trans hback) fun _ => rfl

theorem letThrough : Still s (letThrough s) := by
  unfold Machine.letThrough
  split
  · exact refl
  · exact after dropHold rfl rfl

/-! ### The taking of a read (R25) -/

theorem requestDrive (op : ControllerOp) : Still s (requestDrive op s) := by
  unfold Machine.requestDrive claimDrive
  split
  · exact of_eq rfl rfl
  · dsimp only
    split <;> exact of_eq rfl rfl

theorem takeRelaySlot : Still s (takeRelaySlot s).2 := by
  obtain e | ⟨i, -, -, e⟩ := takeRelaySlot_cases s <;> rw [e]
  · exact refl
  · exact of_eq rfl rfl

theorem claimDrive (op : ControllerOp) : Still s (claimDrive op s) := by
  unfold Machine.claimDrive
  dsimp only
  split <;> exact of_eq rfl rfl

theorem requestPassRead (k : ReadKind) (a : Addr) : Still s (requestPassRead k a s) := by
  unfold Machine.requestPassRead
  split
  · exact of_eq rfl rfl
  · exact takeRelaySlot.trans (claimDrive _)

theorem promote (j : Job) (a : Addr) : Still s (promote j a s) := by
  have raised : Still s (modJob j.number (fun j => { j with foreground := true }) { s with
      current := some ⟨a.unit, a.cyl, a.head, a.sector, .read .held, none, false⟩ }) :=
    of_jobsAlike (g := Job.settledBeside) rfl (JobsAlike.modJob (s := s) rfl fun _ => rfl) fun _ => rfl
  unfold Machine.promote
  cases j.kind with
  | sector => exact raised.trans (of_eq rfl rfl)
  | track => exact raised.trans (after (told .deliverFirstClean) rfl rfl)

theorem readFromDrive (a : Addr) : Still s (readFromDrive a s) := by
  unfold Machine.readFromDrive
  dsimp only
  split
  · exact requestDrive _
  · split
    · split
      · exact promote _ a
      · exact requestPassRead _ a
    · exact requestPassRead _ a

theorem readFromStore (a : Addr) : Still s (readFromStore a s) := by
  unfold Machine.readFromStore
  split
  · exact readFromDrive a
  · split
    · exact of_eq rfl rfl
    · split
      · rename_i t e
        obtain rfl : t = (readEntry _ s).2 := by rw [e]
        exact of_eq rfl rfl
      · rename_i t e
        obtain rfl : t = (readEntry _ s).2 := by rw [e]
        split
        · exact of_eq rfl rfl
        · exact after (readFromDrive a) rfl rfl

theorem takeRead (u : UnitNo) (head sector : Nat) : Still s (takeRead u head sector s) := by
  unfold Machine.takeRead readMaintenance
  split
  · split <;> exact of_eq rfl rfl
  · split
    · exact of_eq rfl rfl
    · split
      · exact of_eq rfl rfl
      · split
        · exact requestDrive _
        · exact readFromStore _

theorem retakeRead : Still s (retakeRead s) := by
  unfold Machine.retakeRead
  split
  · exact refl
  · exact after (takeRead ..) rfl rfl

/-! ### Posting (R87) -/

theorem forwardCapture (i : Option SlotId) : Still s (forwardCapture i s) := by
  unfold Machine.forwardCapture
  split
  · exact answerCurrent _
  · rename_i i
    have read := told (.readOut (readOut_readWhole s i))
    split <;> rename_i e <;> rw [e] at read
    · exact read.trans (answerCurrent _)
    · exact read.trans (answerCurrent _)

theorem forwardFirstFiled (j : Job) : Still s (forwardFirstFiled j s).2 := by
  unfold Machine.forwardFirstFiled
  split
  · exact refl
  · split
    · exact refl
    · rename_i i _
      have read := told (.readOut (readOut_readWhole s i))
      split <;> rename_i e <;> rw [e] at read
      · exact read.trans (answerCurrent _)
      · exact read

theorem settleSector (j : Job) (e : Ending) : Still s (settleSector j e s).2 := by
  have fault : Still s (Machine.settleSector j .faultedSlot s).2 := by
    simp only [Machine.settleSector]
    split
    · rename_i i _
      exact forwardCapture (some i)
    · exact letThrough
  cases e with
  | clean _ => exact answerData _
  | recovered _ => exact answerData _
  | unrecovered => exact forwardCapture _
  | faultedSlot => exact fault
  | faultedSeek => exact fault
  | faultedDrive st => exact answerCurrent _
  | completed => exact refl
  | cancelled => exact refl
  | superseded => exact refl
  | escalated => exact refl

theorem settleTrack (j : Job) (e : Ending) : Still s (settleTrack j e s).2 := by
  have first := forwardFirstFiled (s := s) j
  have fault : Still s (Machine.settleTrack j .faultedSlot s).2 := by
    simp only [Machine.settleTrack]
    split <;> rename_i e <;> rw [e] at first
    · exact first.trans letThrough
    · exact first
  have completed : Still s (Machine.settleTrack j .completed s).2 := by
    simp only [Machine.settleTrack]
    split
    · exact refl
    · split
      · exact answerData _
      · split <;> rename_i e <;> rw [e] at first
        · exact first.trans dropHold
        · exact first
  cases e with
  | completed => exact completed
  | faultedSlot => exact fault
  | faultedSeek => exact fault
  | faultedDrive st => exact answerCurrent _
  | clean _ => exact refl
  | recovered _ => exact refl
  | unrecovered => exact refl
  | cancelled => exact refl
  | superseded => exact refl
  | escalated => exact refl

theorem settleHeld (j : Job) (e : Ending) : Still s (settleHeld j e s).2 := by
  unfold Machine.settleHeld
  split
  · split
    · exact settleSector j e
    · exact settleTrack j e
  · exact refl

theorem offer (k : Addr) (o : StoreOrigin) (data : List Word) : Still s (offer k o data s).2 := by
  obtain ⟨_, -, -, -, e⟩ | ⟨_, -, -, e⟩ | ⟨-, ⟨-, e⟩ | ⟨-, ⟨_, -, e⟩ | ⟨-, e⟩⟩⟩ :=
    offer_cases s k o data _ rfl <;> rw [e] <;> exact of_eq rfl rfl

theorem offerRows (j : Job) (k : Nat) (rows : List SectorRow) : Still s (offerRows j k rows s).2 := by
  induction rows generalizing k s with
  | nil => exact refl
  | cons r l ih =>
    unfold Machine.offerRows
    split
    · exact ih (k + 1)
    · exact (offer ..).trans (ih (k + 1))

theorem appendRecord (x : Record) : Still s (appendRecord x s) := by
  rw [appendRecord_eq]
  exact of_eq rfl rfl

theorem postResults (j : Job) (e : Ending) : Still s (postResults j e s) := by
  have counted : ∀ t, Still t (countSectorEnding j.unit e t) := fun t => by
    unfold countSectorEnding
    split <;> exact of_eq rfl rfl
  unfold Machine.postResults
  split
  · refine Still.trans ?_ ((counted _).trans (appendRecord _))
    unfold offerResult
    split
    · exact refl
    · exact offer ..
  · dsimp only
    split
    · exact (offerRows ..).trans (after (appendRecord _) rfl rfl)
    · exact appendRecord _

end Still

/-- A job that has ended is in the table no more, and the cable, where it was free, is free. -/
theorem endJob_gone (n : Nat) (e : Ending) (hg : s.grant = none) :
    (endJob n e s).job n = none ∧ (endJob n e s).grant = none := by
  obtain ⟨hnone, h⟩ | ⟨j, held, t, gone, -, ht, hgone, h⟩ := endJob_cases s n e
  · rw [h]
    exact ⟨hnone, hg⟩
  · have settled := Still.settleHeld (s := giveUpWork n s) j e
    rw [ht] at settled
    have posted := (settled.trans (Still.postResults ((t.job n).getD j) e)).grant
    have given : (giveUpWork n s).grant = none := by
      change s.grant.map _ = none
      rw [hg]
      rfl
    obtain ⟨⟨l, hl⟩, hjobs⟩ := restoreReservations_onlyReserves (dropJob n (releaseJobSlots n
      (noteJobEnded (Machine.postResults ((t.job n).getD j) e t))))
    have left : Still (dropJob n (releaseJobSlots n (noteJobEnded
        (Machine.postResults ((t.job n).getD j) e t)))) gone := by
      rw [hgone]
      exact .of_jobsAlike (by rw [hl]) hjobs fun _ => rfl
    have free : gone.grant = none := by
      rw [left.grant, dropJob_grant, releaseJobSlots, releaseSlots_eq]
      exact posted.trans given
    have out : gone.job n = none := left.job_none (dropJob_job _ n)
    rw [h]
    split
    · exact ⟨Still.retakeRead.job_none out, Still.retakeRead.grant.trans free⟩
    · exact ⟨out, free⟩

/-- The end of a job for which no controller waits tells of itself (R87, R170). -/
theorem endJob_told {n : Nat} {j : Job} (e : Ending) (hj : s.job n = some j) (hback : j.foreground = false) :
    (endJob n e s).notices.jobEnded = true := by
  obtain ⟨⟨l, hl⟩, -⟩ := restoreReservations_onlyReserves (dropJob n (releaseJobSlots n
    (noteJobEnded (postResults (((giveUpWork n s).job n).getD j) e (giveUpWork n s)))))
  rw [endJob, hj]
  simp only [settleHeld_background _ _ _ hback, Bool.false_eq_true, if_false]
  rw [hl, dropJob, releaseJobSlots, releaseSlots_eq]
  rfl

end Sys2Proof.Machine
end

section
/-! SUPPORT. The final stage of a track job (R132): what each sector's row comes to, and which merges are asked
for. -/

namespace Sys2Proof.Machine

variable {s t : State}

/-! ### Readouts that go on while the stage lasts -/

theorem foldl_range_induct {β : Type} (P : Nat → β → Prop) (f : β → Nat → β) (m : Nat)
    (h : ∀ c < m, ∀ b, P c b → P (c + 1) (f b c)) {b : β} (hb : P 0 b) : P m ((List.range m).foldl f b) := by
  induction m with
  | zero => exact hb
  | succ m ih =>
    rw [List.range_succ, List.foldl_append]
    exact h m (Nat.lt_succ_self m) _ (ih fun c hc => h c (Nat.lt_succ_of_lt hc))

/-- A readout without noise gives what it would have given at the stage's beginning. -/
theorem Lasts.readSlot (h : Lasts s t) (hn : s.noise = []) (i : SlotId) (start len : Nat) :
    (readSlot i start len t).1 = (Machine.readSlot i start len { s with noise := [] }).1 :=
  readSlot_words_congr start len (by rw [h.slot i]; rfl) (h.healthy hn)

theorem Lasts.readData (h : Lasts s t) (hn : s.noise = []) (i : SlotId) :
    (readData i t).1 = (Machine.readData i { s with noise := [] }).1 :=
  congrArg allWords (h.readSlot hn i 3 256)

/-- The first capture of a list that reads out clean (R132). -/
theorem firstReadable_eq (hn : s.noise = []) (l : List SlotId) (h : Lasts s t) :
    (firstReadable l t).1 = (l.filterMap fun i => (readData i { s with noise := [] }).1).head? ∧
      ReadOut t (firstReadable l t).2 := by
  induction l generalizing t with
  | nil => exact ⟨rfl, .refl t⟩
  | cons i l ih =>
    have hdata := h.readData hn i
    have hread := readOut_readData t i
    unfold firstReadable
    split <;> rename_i e <;> rw [e] at hdata hread
    · exact ⟨by rw [List.filterMap_cons, ← hdata]; rfl, hread⟩
    · obtain ⟨hfirst, hrest⟩ := ih (h.trans hread.toLasts)
      exact ⟨by rw [List.filterMap_cons, ← hdata]; exact hfirst, hread.trans hrest⟩

/-- The merge of a list of captures under sector `x`, as it is asked for. -/
def State.mergeOf (s : State) (x : Nat) (list : List SlotId) : RunningMerge :=
  { sector := x, q := s.q, t := s.t
    captures := list.map fun i => mergeCapture (s.slot i) (readPositions i { s with noise := [] }).1 }

theorem readCaptures_eq (hn : s.noise = []) (l : List SlotId) (h : Lasts s t) :
    (readCaptures l t).1 =
        (l.map fun i => mergeCapture (s.slot i) (readPositions i { s with noise := [] }).1) ∧
      ReadOut t (readCaptures l t).2 := by
  induction l generalizing t with
  | nil => exact ⟨rfl, .refl t⟩
  | cons i l ih =>
    have hread : ReadOut t (readPositions i t).2 := readOut_readSlot t i 3 257
    obtain ⟨hcaptures, hrest⟩ := ih (h.trans hread.toLasts)
    refine ⟨?_, hread.trans hrest⟩
    have hfirst : mergeCapture (t.slot i) (readPositions i t).1 =
        mergeCapture (s.slot i) (readPositions i { s with noise := [] }).1 := by
      rw [show (readPositions i t).1 = _ from h.readSlot hn i 3 257, h.slot i]
      rfl
    simp only [readCaptures, hfirst, hcaptures, List.map_cons]

/-! ### The rows -/

/-- What the CLEAN captures of a row read out as, in list order. -/
def State.cleanReads (s : State) (r : SectorRow) : List (List Word) :=
  (r.list.filter fun i => (s.slot i).outcome = some .clean).filterMap fun i =>
    (readData i { s with noise := [] }).1

/-- A row after step 1: superseded, or CLEAN with what the first of its captures that is read out gives. -/
def cleanRow (first : Option (List Word)) (r : SectorRow) : SectorRow :=
  if r.superseded then { r with outcome := some .superseded }
  else match first with
    | some data => { r with outcome := some .clean, data := some data }
    | none => r

theorem cleanRow_superseded {r : SectorRow} (first : Option (List Word)) (h : r.superseded = true) :
    cleanRow first r = { r with outcome := some .superseded } := if_pos h

theorem cleanRow_read {r : SectorRow} (data : List Word) (h : r.superseded = false) :
    cleanRow (some data) r = { r with outcome := some .clean, data := some data } := if_neg (by simp [h])

theorem cleanRow_unread {r : SectorRow} (h : r.superseded = false) : cleanRow none r = r :=
  if_neg (by simp [h])

/-- A row that step 1 has left open, and whose captures a merge takes. -/
def awaitsMerge (r : SectorRow) : Bool := r.outcome.isNone && decide (2 ≤ r.list.length)

/-- A row after step 3: UNRECOVERED where it is still open and no merge takes it. -/
def endRow (r : SectorRow) : SectorRow :=
  if r.outcome.isNone && !awaitsMerge r then { r with outcome := some .unrecovered } else r

theorem rowOf_set (j : Job) {c : Nat} (r : SectorRow) (x : Nat) (hc : c < j.rows.length) :
    rowOf { j with rows := j.rows.set c r } x = if x = c then r else rowOf j x := by
  by_cases h : x = c
  · subst h
    simp [rowOf, hc]
  · simp [rowOf, List.getD_eq_getElem?_getD, List.getElem?_set_ne (Ne.symm h), h]

/-- `t` stands in the final stage of job `n`, which began in `s` with the job as `j`: its rows are `row`, and the
merges asked for are `merges`. -/
structure Stage (s : State) (n : Nat) (j : Job) (row : Nat → SectorRow) (merges : List RunningMerge)
    (t : State) : Prop where
  lasts : Lasts s t
  job : ∃ k, t.job n = some k ∧ k.rows.length = j.rows.length ∧
    (∀ x < j.rows.length, rowOf k x = row x) ∧ k.merges = merges ∧ k.revsDone = j.revsDone ∧
    k.foreground = j.foreground ∧ (merges ≠ [] → k.state = .merging)

namespace Stage

variable {n : Nat} {j : Job} {row : Nat → SectorRow} {merges : List RunningMerge}

theorem congr (h : Stage s n j row merges t) {row' : Nat → SectorRow}
    (e : ∀ x < j.rows.length, row x = row' x) : Stage s n j row' merges t := by
  obtain ⟨k, hk, hlen, hrows, hrest⟩ := h.job
  exact ⟨h.lasts, k, hk, hlen, fun x hx => (hrows x hx).trans (e x hx), hrest⟩

theorem readOut (h : Stage s n j row merges t) {r : State} (g : ReadOut t r) : Stage s n j row merges r := by
  obtain ⟨k, hk, hlen, hrows, hmerges, hdone, hfore, hstate⟩ := h.job
  obtain ⟨l, hl, hlk⟩ := g.jobs.job_some (fun _ => rfl) hk
  have e := Job.eq_of_unreserved hlk
  refine ⟨h.lasts.trans g.toLasts, l, hl, ?_, fun x hx => ?_, ?_, ?_, ?_, fun hm => ?_⟩
  · rw [e]; exact hlen
  · rw [e]; exact hrows x hx
  · rw [e]; exact hmerges
  · rw [e]; exact hdone
  · rw [e]; exact hfore
  · rw [e]; exact hstate hm

theorem modRow (h : Stage s n j row merges t) {c : Nat} (hc : c < j.rows.length)
    (f : SectorRow → SectorRow) :
    Stage s n j (fun x => if x = c then f (row x) else row x) merges (modRow n c f t) := by
  obtain ⟨k, hk, hlen, hrows, hrest⟩ := h.job
  refine ⟨h.lasts.modJob _ _, _, modRow_job hk c f, by simp [hlen], fun x hx => ?_, hrest⟩
  rw [rowOf_set k _ x (hlen.symm ▸ hc), hrows x hx, hrows c hc]
  split
  · subst_vars
    rfl
  · rfl

/-- Step 1 on one sector. -/
theorem settleClean (h : Stage s n j row merges t) (hn : s.noise = []) {c : Nat} (hc : c < j.rows.length) :
    Stage s n j (fun x => if x = c then cleanRow (s.cleanReads (row x)).head? (row x) else row x) merges
      (settleClean n c t) := by
  obtain ⟨k, hk, -, hrows, -⟩ := h.job
  have hclean : (fun i => decide ((t.slot i).outcome = some .clean)) =
      fun i => decide ((s.slot i).outcome = some .clean) := funext fun i => by rw [h.lasts.slot i]
  have hfirst : (firstReadable ((row c).list.filter fun i => (s.slot i).outcome = some .clean) t).1 =
    (s.cleanReads (row c)).head? := (firstReadable_eq hn _ h.lasts).1
  have hread := (firstReadable_eq hn
    ((row c).list.filter fun i => (s.slot i).outcome = some .clean) h.lasts).2
  simp only [Machine.settleClean, hk, hrows c hc, hclean]
  cases hsup : (row c).superseded with
  | true =>
    refine (h.modRow hc fun r => { r with outcome := some .superseded }).congr fun x _ => ?_
    split
    · subst_vars
      rw [cleanRow_superseded _ hsup]
    · rfl
  | false =>
    simp only [Bool.false_eq_true, if_false]
    split <;> rename_i e <;> rw [e] at hfirst hread
    · rename_i data _
      refine ((h.readOut hread).modRow hc fun r => { r with
        outcome := some .clean, data := some data }).congr fun x _ => ?_
      split
      · subst_vars
        rw [← hfirst, cleanRow_read data hsup]
      · rfl
    · refine (h.readOut hread).congr fun x _ => ?_
      split
      · subst_vars
        rw [← hfirst, cleanRow_unread hsup]
      · rfl

/-- A merge of sector `c` asked for. -/
theorem askMerge (h : Stage s n j row merges t) (hn : s.noise = []) (c : Nat) (list : List SlotId) :
    Stage s n j row (merges ++ [s.mergeOf c list]) (askMerge n c list t) := by
  obtain ⟨hcaptures, hread⟩ := readCaptures_eq hn list h.lasts
  obtain ⟨hlasts, k, hk, hlen, hrows, hmerges, hdone, hfore, -⟩ := h.readOut hread
  have hqt : t.q = s.q ∧ t.t = s.t := by
    obtain ⟨_, _, _, _, _, e⟩ := h.lasts.fields
    exact ⟨by rw [e], by rw [e]⟩
  refine ⟨hlasts.modJob _ _, _, modJob_job_some hk _ (by intro; rfl), hlen, hrows, ?_, hdone, hfore,
    fun _ => rfl⟩
  simp only [hmerges, State.mergeOf, hcaptures, hqt]

/-- Steps 2 and 3 on one sector. -/
theorem settleMerge (h : Stage s n j row merges t) (hn : s.noise = []) {c : Nat} (hc : c < j.rows.length) :
    Stage s n j (fun x => if x = c then endRow (row x) else row x)
      (merges ++ if awaitsMerge (row c) then [s.mergeOf c (row c).list] else []) (settleMerge n c t) := by
  obtain ⟨k, hk, -, hrows, -⟩ := h.job
  have kept (e : endRow (row c) = row c) {r : State} {m : List RunningMerge} (g : Stage s n j row m r) :
      Stage s n j (fun x => if x = c then endRow (row x) else row x) m r :=
    g.congr fun x _ => by
      split
      · subst_vars
        exact e.symm
      · rfl
  simp only [Machine.settleMerge, hk, hrows c hc]
  cases hout : (row c).outcome with
  | some o =>
    have hopen : awaitsMerge (row c) = false := by simp [awaitsMerge, hout]
    simp only [hopen, Bool.false_eq_true, if_false, List.append_nil, Option.isSome_some, if_true]
    exact kept (by simp [endRow, hout]) h
  | none =>
    simp only [Option.isSome_none, Bool.false_eq_true, if_false]
    by_cases hlist : 2 ≤ (row c).list.length
    · have hopen : awaitsMerge (row c) = true := by simp [awaitsMerge, hout, hlist]
      simp only [hopen, if_pos hlist, if_true]
      exact kept (by simp [endRow, hopen]) (h.askMerge hn c (row c).list)
    · have hopen : awaitsMerge (row c) = false := by simp [awaitsMerge, hlist]
      simp only [hopen, if_neg hlist, Bool.false_eq_true, if_false, List.append_nil]
      refine (h.modRow hc _).congr fun x _ => ?_
      split
      · subst_vars
        simp [endRow, hout, hopen]
      · rfl

end Stage

/-- The rows while a step of the stage has come as far as sector `c`. -/
def rowsUpTo (f : SectorRow → SectorRow) (c : Nat) (row : Nat → SectorRow) (x : Nat) : SectorRow :=
  if x < c then f (row x) else row x

theorem rowsUpTo_succ (f : SectorRow → SectorRow) (c : Nat) (row : Nat → SectorRow) (x : Nat) :
    (if x = c then f (rowsUpTo f c row x) else rowsUpTo f c row x) = rowsUpTo f (c + 1) row x := by
  unfold rowsUpTo
  by_cases h : x = c
  · simp [h]
  · have hlt : x < c + 1 ↔ x < c := by omega
    simp [h, hlt]

/-- A row as step 1 makes it of the row that the stage began with. -/
def State.cleanedRow (s : State) (r : SectorRow) : SectorRow := cleanRow (s.cleanReads r).head? r

/-- The merges that the rows up to `c` ask for. -/
def State.mergesUpTo (s : State) (row : Nat → SectorRow) (c : Nat) : List RunningMerge :=
  ((List.range c).filter fun x => awaitsMerge (row x)).map fun x => s.mergeOf x (row x).list

theorem State.mergesUpTo_succ (s : State) (row : Nat → SectorRow) (c : Nat) : s.mergesUpTo row (c + 1) =
    s.mergesUpTo row c ++ if awaitsMerge (row c) then [s.mergeOf c (row c).list] else [] := by
  rw [mergesUpTo, List.range_succ, List.filter_append, List.map_append, mergesUpTo]
  cases h : awaitsMerge (row c) <;> simp [h]

/-- The final stage settles every row, and asks for a merge of each that its CLEAN captures leave open. -/
theorem finalStage_stage {n : Nat} {j : Job} (hj : s.job n = some j) (hn : s.noise = [])
    (hm : j.merges = []) : ∃ t, finalStage n s = endIfMerged n t ∧
      Stage s n j (fun x => endRow (s.cleanedRow (rowOf j x)))
        (s.mergesUpTo (fun x => s.cleanedRow (rowOf j x)) j.rows.length) t := by
  have begun : Stage s n j (rowOf j) [] s :=
    ⟨.refl s, j, hj, rfl, fun _ _ => rfl, hm, rfl, rfl, fun h => absurd rfl h⟩
  have cleaned := (foldl_range_induct (fun c => Stage s n j (rowsUpTo s.cleanedRow c (rowOf j)) [])
    (fun t k => settleClean n k t) j.rows.length
    (fun c hc b hb => (hb.settleClean hn hc).congr fun x _ => rowsUpTo_succ s.cleanedRow c _ x)
    (begun.congr fun _ _ => rfl)).congr fun x hx =>
      (if_pos hx : rowsUpTo s.cleanedRow j.rows.length (rowOf j) x = s.cleanedRow (rowOf j x))
  have merged := (foldl_range_induct (fun c => Stage s n j
      (rowsUpTo endRow c fun x => s.cleanedRow (rowOf j x))
      (s.mergesUpTo (fun x => s.cleanedRow (rowOf j x)) c))
    (fun t k => settleMerge n k t) j.rows.length
    (fun c hc b hb => by
      have hrow : rowsUpTo endRow c (fun x => s.cleanedRow (rowOf j x)) c = s.cleanedRow (rowOf j c) :=
        if_neg (Nat.lt_irrefl c)
      have next := (hb.settleMerge hn hc).congr fun x _ => rowsUpTo_succ endRow c _ x
      rw [hrow] at next
      rwa [s.mergesUpTo_succ])
    (cleaned.congr fun _ _ => rfl)).congr fun x hx =>
      (if_pos hx : rowsUpTo endRow j.rows.length (fun x => s.cleanedRow (rowOf j x)) x = _)
  refine ⟨_, ?_, merged⟩
  simp only [finalStage, hj]

/-! ### What the rows come to -/

theorem endRow_settled {r : SectorRow} (h : r.outcome.isSome = true) : endRow r = r := by
  rw [endRow, Option.isNone_eq_false_iff.2 h]
  rfl

theorem endRow_merged {r : SectorRow} (h : awaitsMerge r = true) : endRow r = r := by
  rw [endRow, h, Bool.not_true, Bool.and_false]
  rfl

section
variable {r : SectorRow} (s : State)

theorem endRow_superseded (h : r.superseded = true) :
    (endRow (s.cleanedRow r)).outcome = some .superseded := by
  rw [State.cleanedRow, cleanRow_superseded _ h, endRow_settled rfl]

theorem endRow_clean (h : r.superseded = false) {data : List Word} {more : List (List Word)}
    (hc : s.cleanReads r = data :: more) :
    (endRow (s.cleanedRow r)).outcome = some .clean ∧ (endRow (s.cleanedRow r)).data = some data := by
  rw [State.cleanedRow, hc, List.head?_cons, cleanRow_read data h, endRow_settled rfl]
  exact ⟨rfl, rfl⟩

theorem cleanedRow_open (h : r.superseded = false) (hc : s.cleanReads r = []) : s.cleanedRow r = r := by
  rw [State.cleanedRow, hc, List.head?_nil, cleanRow_unread h]

theorem endRow_unrecovered (hr : r.outcome = none) (h : r.superseded = false) (hc : s.cleanReads r = [])
    (hl : r.list.length < 2) : (endRow (s.cleanedRow r)).outcome = some .unrecovered := by
  have hopen : awaitsMerge r = false := by simp [awaitsMerge, hl]
  simp [cleanedRow_open s h hc, endRow, hr, hopen]

theorem endRow_open (hr : r.outcome = none) (h : r.superseded = false) (hc : s.cleanReads r = [])
    (hl : 2 ≤ r.list.length) : (endRow (s.cleanedRow r)).outcome = none := by
  rw [cleanedRow_open s h hc, endRow_merged (by simp [awaitsMerge, hr, hl]), hr]

/-- Of the rows that begin without an outcome, those are merged that are not superseded, have no CLEAN capture
that is read out, and have two captures or more. -/
theorem awaitsMerge_cleanedRow (hr : r.outcome = none) : awaitsMerge (s.cleanedRow r) = true ↔
    r.superseded = false ∧ s.cleanReads r = [] ∧ 2 ≤ r.list.length := by
  cases hsup : r.superseded with
  | true => simp [State.cleanedRow, cleanRow_superseded _ hsup, awaitsMerge]
  | false =>
    cases hc : s.cleanReads r with
    | cons data more => simp [State.cleanedRow, hc, cleanRow_read data hsup, awaitsMerge]
    | nil => simp [cleanedRow_open s hsup hc, awaitsMerge, hr]

end

theorem endIfMerged_eq {n : Nat} {k : Job} (hk : t.job n = some k) :
    endIfMerged n t = if k.merges.isEmpty then endJob n .completed t else t := by
  simp only [endIfMerged, hk]

section
variable {n : Nat} {j : Job} (hj : s.job n = some j) (hn : s.noise = []) (hm : j.merges = [])
  (hgrant : s.grant = none)

include hj hn hm hgrant

/-- The final stage of a job of which no sector is to be merged ends the job. -/
theorem finalStage_ends
    (h : ∀ x < j.rows.length, awaitsMerge (s.cleanedRow (rowOf j x)) = false) :
    (finalStage n s).grant = none ∧ (finalStage n s).job n = none ∧
      (j.foreground = false → (finalStage n s).notices.jobEnded = true) := by
  obtain ⟨t, e, stage⟩ := finalStage_stage hj hn hm
  obtain ⟨k, hk, -, -, hmerges, -, hfore, -⟩ := stage.job
  have hnone : k.merges = [] := by
    rw [hmerges, State.mergesUpTo, List.map_eq_nil_iff, List.filter_eq_nil_iff]
    exact fun x hx => by simp [h x (List.mem_range.1 hx)]
  have hfree : t.grant = none := by
    obtain ⟨_, _, _, _, _, et⟩ := stage.lasts.fields
    rw [et]
    exact hgrant
  obtain ⟨hgone, hcable⟩ := endJob_gone n .completed hfree
  rw [e, endIfMerged_eq hk, hnone]
  exact ⟨hcable, hgone, fun hback => endJob_told .completed hk (hfore.trans hback)⟩

/-- The final stage of a job of which a sector is to be merged leaves it MERGING, its rows settled but for the
merges. -/
theorem finalStage_merges (h : ∃ x < j.rows.length, awaitsMerge (s.cleanedRow (rowOf j x)) = true) :
    (finalStage n s).grant = none ∧ ∃ k, (finalStage n s).job n = some k ∧ k.state = .merging ∧
      k.revsDone = j.revsDone ∧ k.rows.length = j.rows.length ∧
      (∀ x < j.rows.length, rowOf k x = endRow (s.cleanedRow (rowOf j x))) ∧
      ∀ x < j.rows.length, awaitsMerge (s.cleanedRow (rowOf j x)) = true →
        s.mergeOf x (s.cleanedRow (rowOf j x)).list ∈ k.merges := by
  obtain ⟨t, e, stage⟩ := finalStage_stage hj hn hm
  obtain ⟨k, hk, hlen, hrows, hmerges, hdone, -, hstate⟩ := stage.job
  have hmem : ∀ x < j.rows.length, awaitsMerge (s.cleanedRow (rowOf j x)) = true →
      s.mergeOf x (s.cleanedRow (rowOf j x)).list ∈ k.merges := fun x hx ha => by
    rw [hmerges]
    exact List.mem_map.2 ⟨x, List.mem_filter.2 ⟨List.mem_range.2 hx, ha⟩, rfl⟩
  obtain ⟨x, hx, ha⟩ := h
  have hsome : k.merges ≠ [] := List.ne_nil_of_mem (hmem x hx ha)
  have hfree : t.grant = none := by
    obtain ⟨_, _, _, _, _, et⟩ := stage.lasts.fields
    rw [et]
    exact hgrant
  rw [e, endIfMerged_eq hk, if_neg (by simpa using hsome)]
  exact ⟨hfree, k, hk, hstate (hmerges ▸ hsome), hdone, hlen, hrows, hmem⟩

end

/-! ### The last revolution (R131, R132) -/

theorem cleanReads_congr (h : t.slots = s.slots) (r : SectorRow) : t.cleanReads r = s.cleanReads r := by
  have hslot : ∀ i, t.slot i = s.slot i := fun i => by rw [State.slot, h]; rfl
  have hread : ∀ i, (readData i { t with noise := [] }).1 = (readData i { s with noise := [] }).1 := fun i =>
    congrArg allWords (readSlot_words_congr 3 256 (congrArg Slot.words (hslot i)) rfl)
  simp only [State.cleanReads, hslot, hread]

theorem mergeOf_congr (h : t.slots = s.slots) (hq : t.q = s.q) (ht : t.t = s.t) (x : Nat)
    (list : List SlotId) : t.mergeOf x list = s.mergeOf x list := by
  have hslot : ∀ i, t.slot i = s.slot i := fun i => by rw [State.slot, h]; rfl
  have hread : ∀ i, (readPositions i { t with noise := [] }).1 = (readPositions i { s with noise := [] }).1 :=
    fun i => readSlot_words_congr 3 257 (congrArg Slot.words (hslot i)) rfl
  simp only [State.mergeOf, hslot, hread]
  rw [hq, ht]

/-- With every slot of the read filled the closing INDEX mark gives none back. -/
theorem closedRevolution_filled (n : Nat) {g : Grant} (h : g.slots.length ≤ g.nextMark) (s : State) :
    closedRevolution n g s = modJob n closeRevolution (clearOwner n g.unit { s with grant := none }) := by
  rw [closedRevolution, List.drop_of_length_le h]
  rfl

/-- The last revolution settles its sectors. -/
theorem closeReadTrack_settles {n : Nat} {g : Grant} {j : Job} (hab : g.abandoned = false)
    (hj : s.job n = some j) (hlast : j.revsRequested ≤ j.revsDone + 1 ∨
      ∀ r ∈ j.rows, r.superseded = true ∨ r.firstClean ≠ none) :
    closeReadTrack n g s = finalStage n (closedRevolution n g s) := by
  obtain ⟨k, hk, hkj⟩ := closedRevolution_job g hj
  rw [closeReadTrack_eq hab hk, if_neg]
  rintro ⟨hleft, hany⟩
  rw [Job.eq_of_unreserved hkj] at hleft hany
  obtain hdone | hall := hlast
  · exact absurd hleft (Nat.not_lt.2 hdone)
  · obtain ⟨r, hr, hopen⟩ := List.any_eq_true.1 hany
    rw [Bool.and_eq_true, Bool.not_eq_true', Option.isNone_iff_eq_none] at hopen
    exact (hall r hr).elim (fun h => by simp [h] at hopen) fun h => h hopen.2

theorem rowOf_mem {j : Job} {x : Nat} (h : x < j.rows.length) : rowOf j x ∈ j.rows := by
  rw [rowOf, List.getD_eq_getElem _ _ h]
  exact List.getElem_mem h

/-- The end of the last revolution, told by what the captures of `s` read out as: the job ends where no sector is
to be merged, and otherwise goes to MERGING with the other sectors settled. -/
theorem closeReadTrack_last {n : Nat} {g : Grant} {j : Job} (hab : g.abandoned = false)
    (hj : s.job n = some j) (hn : s.noise = []) (hfilled : g.slots.length ≤ g.nextMark)
    (hm : j.merges = []) (houts : ∀ r ∈ j.rows, r.outcome = none)
    (hlast : j.revsRequested ≤ j.revsDone + 1 ∨ ∀ r ∈ j.rows, r.superseded = true ∨ r.firstClean ≠ none) :
    (closeReadTrack n g s).grant = none ∧
      ((∀ x < j.rows.length, (rowOf j x).superseded = true ∨ s.cleanReads (rowOf j x) ≠ [] ∨
          (rowOf j x).list.length < 2) → (closeReadTrack n g s).job n = none ∧
            (j.foreground = false → (closeReadTrack n g s).notices.jobEnded = true)) ∧
      ((∃ x < j.rows.length, (rowOf j x).superseded = false ∧ s.cleanReads (rowOf j x) = [] ∧
          2 ≤ (rowOf j x).list.length) →
        ∃ k, (closeReadTrack n g s).job n = some k ∧ k.state = .merging ∧ k.revsDone = j.revsDone + 1 ∧
          k.rows.length = j.rows.length ∧ ∀ x < j.rows.length,
            rowOf k x = endRow (s.cleanedRow (rowOf j x)) ∧
            ((rowOf j x).superseded = false → s.cleanReads (rowOf j x) = [] →
              2 ≤ (rowOf j x).list.length → s.mergeOf x (rowOf j x).list ∈ k.merges)) := by
  rw [closeReadTrack_settles hab hj hlast, closedRevolution_filled n hfilled]
  obtain ⟨u, hu⟩ : ∃ u, u = modJob n closeRevolution (clearOwner n g.unit { s with grant := none }) :=
    ⟨_, rfl⟩
  rw [← hu]
  have hjob : u.job n = some (closeRevolution j) := hu ▸ modJob_job_some hj _ fun _ => rfl
  have hreads : u.cleanReads = s.cleanReads := funext (cleanReads_congr (hu ▸ rfl))
  have hrow : u.cleanedRow = s.cleanedRow := funext fun r => by
    rw [State.cleanedRow, hreads, State.cleanedRow]
  have hmerge : u.mergeOf = s.mergeOf := funext₂ (mergeOf_congr (hu ▸ rfl) (hu ▸ rfl) (hu ▸ rfl))
  have hawaits : ∀ x < j.rows.length, awaitsMerge (u.cleanedRow (rowOf j x)) = true ↔
      (rowOf j x).superseded = false ∧ s.cleanReads (rowOf j x) = [] ∧ 2 ≤ (rowOf j x).list.length :=
    fun x hx => by rw [awaitsMerge_cleanedRow u (houts _ (rowOf_mem hx)), hreads]
  have ends := finalStage_ends (j := closeRevolution j) hjob (hu ▸ hn) hm (hu ▸ rfl)
  have merges := finalStage_merges (j := closeRevolution j) hjob (hu ▸ hn) hm (hu ▸ rfl)
  by_cases hany : ∃ x < j.rows.length, awaitsMerge (u.cleanedRow (rowOf j x)) = true
  · obtain ⟨hgrant, k, hk, hstate, hdone, hlen, hrows, hmerges⟩ := merges hany
    refine ⟨hgrant, fun hnone => ?_, fun _ => ⟨k, hk, hstate, hdone, hlen, fun x hx => ⟨?_, fun hs hc hl => ?_⟩⟩⟩
    · obtain ⟨x, hx, ha⟩ := hany
      obtain ⟨hs, hc, hl⟩ := (hawaits x hx).1 ha
      obtain h | h | h := hnone x hx
      · simp [hs] at h
      · exact absurd hc h
      · exact absurd hl (Nat.not_le.2 h)
    · rw [← hrow]
      exact hrows x hx
    · have hmem := hmerges x hx ((hawaits x hx).2 ⟨hs, hc, hl⟩)
      rwa [hmerge, cleanedRow_open u (r := rowOf (closeRevolution j) x) hs (hreads ▸ hc)] at hmem
  · obtain ⟨hgrant, hgone, htold⟩ := ends fun x hx => Bool.eq_false_iff.2 fun ha => hany ⟨x, hx, ha⟩
    refine ⟨hgrant, fun _ => ⟨hgone, htold⟩, fun ⟨x, hx, h⟩ => ?_⟩
    exact absurd ⟨x, hx, (hawaits x hx).2 h⟩ hany

theorem RevolutionOver.endCommand {n : Nat} {j : Job} (h : RevolutionOver n j s) :
    RevolutionOver n j (endCommand s) := ⟨h.bank, h.grant, h.job⟩

/-- Settles O33: the two ends of a stream, the revolution after which the job waits for the next while bank 0 is
in service, and the final stage, followed sector by sector. -/
theorem revolutionEnds : Obligations.RevolutionEnds := by
  intro s g n head j noise hopen hg hh ho hab hj _
  refine ⟨fun d f i r clean hpresent hi hf _ hr hclean => ?_, fun r hleft hr hsup hunread hbank => ?_,
    fun clean hfilled hmerges houts hlast hreads => ?_⟩
  · have hexec := exec_streamChecked_track s hopen hg d noise hh ho
    subst hr hclean
    cases hkept : keptOutcome f.outcome with
    | true =>
      obtain ⟨k, hgrant, hk, hoff, hfull, hroom⟩ :=
        trackStream_kept (s := beginCommand noise s) hab hpresent hj hi hf hkept
      refine ⟨_, k, hexec, hgrant, hk, fun _ => ⟨hoff, hfull, fun h => ?_⟩, fun h => ?_⟩
      · rw [← fileRow_eq]
        exact hroom h
      · obtain h | h := h <;> simp [h, keptOutcome] at hkept
    | false =>
      obtain ⟨k, hgrant, hk, hrows, howner, hoff⟩ :=
        trackStream_unkept (s := beginCommand noise s) hab hpresent hj hi hf hkept
      refine ⟨_, k, hexec, hgrant, hk, fun h => ?_, fun _ => ⟨hrows, fun _ => howner, hoff⟩⟩
      simp [(keptOutcome_iff _).2 h] at hkept
  · obtain ⟨-, hgrant, k, hk, hdone, hreseek, hstate, hrows⟩ := (closeReadTrack_goesOn
      (s := beginCommand noise s) (g := g) hab hj hleft hr hsup hunread hbank).settleJobs.endCommand
    exact ⟨_, k, exec_revolutionEnd_track s hopen hg noise hh ho, hgrant, hk, hdone, hreseek, hstate, hrows⟩
  · have hclean : ∀ x, clean x = (beginCommand [] s).cleanReads (rowOf j x) := fun x =>
      (congrFun hreads x).trans (cleanReads_congr (s := s) rfl _).symm
    have hrow := fun x hx => houts (rowOf j x) (rowOf_mem (j := j) (x := x) hx)
    obtain ⟨hgrant, hends, hgoes⟩ := closeReadTrack_last (s := beginCommand [] s) hab hj rfl hfilled hmerges
      (fun r hr => (houts r hr).1) hlast
    simp only [hclean]
    refine ⟨_, exec_revolutionEnd_track s hopen hg [] hh ho, hgrant, hends, fun hsome => ?_⟩
    obtain ⟨k, hk, hstate, hdone, hlen, hrows⟩ := hgoes hsome
    refine ⟨k, hk, hstate, hdone, hlen, fun x hx => ?_⟩
    obtain ⟨hkrow, hmerge⟩ := hrows x hx
    rw [hkrow]
    refine ⟨endRow_superseded _, fun hsup => ⟨fun data more => endRow_clean _ hsup, fun hc hl => ?_,
      fun hc hl => ⟨?_, _, hmerge hsup hc hl, rfl, rfl, rfl, ?_⟩⟩⟩
    · exact endRow_unrecovered _ (hrow x hx).1 hsup hc hl
    · exact endRow_open _ (hrow x hx).1 hsup hc hl
    · exact congrArg RunningMerge.captures (mergeOf_congr (s := s) rfl rfl rfl x (rowOf j x).list)

end Sys2Proof.Machine
end

section
/-! SUPPORT. The arbiter's grant (R45 to R49): which request it takes, and what a job's command or read does to
the unit, to its former owner and to the job. -/

namespace Sys2Proof.Machine

variable {s : State}

/-! ### The arbiter's choice (R47) -/

/-- With the bypass open GRANT is the arbiter's decision. -/
theorem exec_grant (noise : List ReadoutNoise) (hopen : s.bypassOpen = true) :
    exec (.grant noise) s = .next (endCommand (decideGrant (beginCommand noise s))) :=
  congrArg Host.Outcome.next (whenOpen_open s noise decideGrant hopen)

theorem decideGrant_busy (hg : s.grant ≠ none) : decideGrant s = s :=
  if_pos (Option.isSome_iff_ne_none.2 hg)

section
variable (hg : s.grant = none)

include hg

theorem decideGrant_item {i : Item} (hi : s.items.find? s.itemEligible = some i) :
    decideGrant s = settleJobs (grantItem i s) := by
  simp [decideGrant, hg, hi]

theorem decideGrant_job {j : Job} (hi : s.items.find? s.itemEligible = none)
    (hj : s.grantOrder.find? s.eligible = some j) : decideGrant s = settleJobs (grantJob j s) := by
  simp [decideGrant, hg, hi, hj]

theorem decideGrant_idle (hi : s.items.find? s.itemEligible = none)
    (hj : s.grantOrder.find? s.eligible = none) : decideGrant s = s := by
  simp [decideGrant, hg, hi, hj]

end

/-- The first item of an ordered list that meets `p` has the least key of those that do. -/
theorem find?_sortBy {α : Type} {key : α → Nat} {p : α → Bool} {l : List α} {x : α}
    (h : (sortBy key l).find? p = some x) : x ∈ l ∧ p x = true ∧ ∀ y ∈ l, p y = true → key x ≤ key y := by
  obtain ⟨hx, before, after, e, hbefore⟩ := List.find?_eq_some_iff_append.1 h
  have hmem : ∀ y, y ∈ l ↔ y ∈ before ++ x :: after := fun y => e ▸ (sortBy_perm key l).mem_iff.symm
  have hsorted := sortBy_sorted key l
  rw [e] at hsorted
  have hlater := (List.pairwise_cons.1 (List.pairwise_append.1 hsorted).2.1).1
  refine ⟨(hmem x).2 (by simp), hx, fun y hy hpy => ?_⟩
  rcases List.mem_append.1 ((hmem y).1 hy) with hy | hy
  · simpa [hpy] using hbefore y hy
  · rcases List.mem_cons.1 hy with rfl | hy
    · exact Nat.le_refl _
    · exact hlater y hy

theorem grantClass_eq_jobClass (j : Job) : j.grantClass = jobClass j := by
  unfold Job.grantClass jobClass
  cases j.kind <;> cases j.origin <;> rfl

/-- Keys compared as numbers are compared by class, then unit, then job number. -/
theorem notAfter_of_jobKey_le {j k : Job} (h : jobKey j ≤ jobKey k) (hj : j.number ≤ 255)
    (hk : k.number ≤ 255) : j.notAfter k := by
  unfold jobKey at h
  unfold Job.notAfter
  rw [grantClass_eq_jobClass, grantClass_eq_jobClass, Fin.lt_def, Fin.ext_iff]
  have hju := j.unit.isLt
  have hku := k.unit.isLt
  omega

theorem one_le_jobKey (j : Job) : 1 ≤ jobKey j := by
  have h : 1 ≤ jobClass j := by
    unfold jobClass
    split <;> omega
  unfold jobKey
  omega

/-- The job granted is the foreground job, or there is none eligible and its key is the lowest (R47). -/
theorem grantOrder_find? {j : Job} (h : s.grantOrder.find? s.eligible = some j) :
    j ∈ s.jobList ∧ s.eligible j = true ∧ ∀ k ∈ s.jobList, s.eligible k = true →
      j.foreground = true ∨ k.foreground = false ∧ (s.NumbersSound → j.notAfter k) := by
  obtain ⟨hj, he, hleast⟩ := find?_sortBy h
  refine ⟨hj, he, fun k hk hke => ?_⟩
  have hle := hleast k hk hke
  have hpos := one_le_jobKey j
  cases hjf : j.foreground with
  | true => exact .inl rfl
  | false =>
    cases hkf : k.foreground with
    | true =>
      simp [hjf, hkf] at hle
      omega
    | false =>
      simp only [hjf, hkf, Bool.false_eq_true, if_false] at hle
      exact .inr ⟨rfl, fun ⟨_, _, _, hnumber⟩ =>
        notAfter_of_jobKey_le hle (hnumber j hj).2 (hnumber k hk).2⟩

/-! ### The former owner is told (R48, R78) -/

/-- A job as it is sent back to QUEUED, its action to be made again when another has moved its unit. -/
def Job.sentBack (flag : Bool) (j : Job) : Job :=
  { j with
    state := .queued, claimChecked := false, actionSecond := false
    actionDone := j.actionDone && !flag, repositionNeeded := j.repositionNeeded || flag }

/-- A job that is to make its reposition action again once its work in hand is over. -/
def Job.noted (j : Job) : Job := { j with repositionNeeded := true }

theorem modJob_id (n : Nat) (s : State) : modJob n id s = s := by
  have e : (fun x : Option Job => x.map fun j => if j.number = n then id j else j) = id := by
    funext x
    cases x <;> simp
  rw [modJob, e, Table.map]
  simp

/-- A job told that it has been moved changes its record, and leaves the arbiter or changes no unit. -/
theorem giveReposition_cases (n : Nat) (s : State) :
    s.job n = none ∧ giveReposition n s = s ∨
    ∃ j f, s.job n = some j ∧ (∀ k : Job, (f k).number = k.number) ∧ j.toldMoved (f j) ∧
      (giveReposition n s = modJob n f s ∨ giveReposition n s = leaveArbiter n (modJob n f s)) := by
  cases hj : s.job n with
  | none => exact .inl ⟨rfl, by simp [giveReposition, hj]⟩
  | some j =>
    have back : (j.state = .positioning ∨ j.state = .awaiting) → j.toldMoved (j.sentBack true) := fun h =>
      ⟨fun e => by simp [e] at h, fun _ => by simp [Job.sentBack], fun e => by rcases h with h | h <;> simp [h] at e⟩
    have noted : (j.state = .capturing ∨ j.state = .merging) → j.toldMoved j.noted :=
      fun h => ⟨fun e => by simp [e] at h, fun e => by rcases h with h | h <;> simp [h] at e, fun _ => ⟨rfl, rfl⟩⟩
    refine .inr ⟨j, ?_⟩
    simp only [giveReposition, hj]
    cases hs : j.state with
    | queued =>
      exact ⟨id, trivial, fun _ => rfl, ⟨fun _ => ⟨hs, rfl⟩, by simp [hs], by simp [hs]⟩, .inl (modJob_id n s).symm⟩
    | positioning => exact ⟨Job.sentBack true, trivial, fun _ => rfl, back (.inl hs), .inr rfl⟩
    | awaiting => exact ⟨Job.sentBack true, trivial, fun _ => rfl, back (.inr hs), .inr rfl⟩
    | capturing => exact ⟨Job.noted, trivial, fun _ => rfl, noted (.inl hs), .inl rfl⟩
    | merging => exact ⟨Job.noted, trivial, fun _ => rfl, noted (.inr hs), .inl rfl⟩

theorem giveReposition_fields (n : Nat) (s : State) :
    ∃ x l, giveReposition n s = { s with units := x, jobs := l } := by
  obtain ⟨-, e⟩ | ⟨j, f, -, -, -, e | e⟩ := giveReposition_cases n s <;> exact ⟨_, _, e⟩

theorem giveReposition_job_ne {n m : Nat} (h : m ≠ n) : (giveReposition n s).job m = s.job m := by
  obtain ⟨-, e⟩ | ⟨j, f, -, hf, -, e | e⟩ := giveReposition_cases n s <;> rw [e]
  · exact modJob_job_ne s f hf h
  · exact modJob_job_ne s f hf h

theorem giveReposition_told {n : Nat} {j : Job} (hj : s.job n = some j) :
    ∃ x, (giveReposition n s).job n = some x ∧ j.toldMoved x := by
  obtain ⟨hnone, -⟩ | ⟨k, f, hk, hf, htold, e⟩ := giveReposition_cases n s
  · simp [hj] at hnone
  · obtain rfl : j = k := Option.some.inj (hj.symm.trans hk)
    have hjob : (modJob n f s).job n = some (f j) := modJob_job_some hj f hf
    exact ⟨f j, by rcases e with e | e <;> rw [e] <;> exact hjob, htold⟩

/-- A unit keeps a seek recovery that is not the told job's. -/
theorem giveReposition_unit (n : Nat) (v : UnitNo) (s : State) :
    ∃ m r o, (giveReposition n s).unit v = { s.unit v with motion := m, recovery := r, owner := o } ∧
      ∀ x, (s.unit v).recovery = some x → x.issuer ≠ .job n → r = some x := by
  have kept : ∃ m r o, s.unit v = { s.unit v with motion := m, recovery := r, owner := o } ∧
      ∀ x, (s.unit v).recovery = some x → x.issuer ≠ .job n → r = some x :=
    ⟨_, _, _, rfl, fun _ h _ => h⟩
  obtain ⟨-, e⟩ | ⟨j, f, -, -, -, e | e⟩ := giveReposition_cases n s <;> rw [e]
  · exact kept
  · exact kept
  · refine ⟨_, _, _, Table.get_map .., fun x hx hn => ?_⟩
    change Option.filter _ (s.unit v).recovery = _
    simp [hx, hn]

/-! ### The owner of a unit's positioning (R48) -/

/-- `t` is `s` once job `n` has been granted a request on unit `u`: the job that owned the unit has been told,
and job `n` is as it was. -/
structure OwnerTold (n : Nat) (u : UnitNo) (s t : State) : Prop where
  fields : ∃ x l, t = { s with units := x, jobs := l }
  job : t.job n = s.job n
  told : ∀ m k, (s.unit u).owner = some m → m ≠ n → s.job m = some k → ∃ x, t.job m = some x ∧ k.toldMoved x

theorem becomeOwner_cases (n : Nat) (u : UnitNo) (s : State) :
    (∀ m, (s.unit u).owner = some m → m = n) ∧
      becomeOwner n u s = modUnit u (fun e => { e with owner := some n }) s ∨
    ∃ m, (s.unit u).owner = some m ∧ m ≠ n ∧
      becomeOwner n u s = modUnit u (fun e => { e with owner := some n }) (giveReposition m s) := by
  unfold becomeOwner
  cases ho : (s.unit u).owner with
  | none => exact .inl ⟨nofun, rfl⟩
  | some m =>
    by_cases h : m = n
    · exact .inl ⟨fun _ e => Option.some.inj e ▸ h, by simp [h]⟩
    · exact .inr ⟨m, rfl, h, by simp [h]⟩

theorem becomeOwner_told (n : Nat) (u : UnitNo) (s : State) : OwnerTold n u s (becomeOwner n u s) := by
  obtain ⟨hown, e⟩ | ⟨m, hown, hm, e⟩ := becomeOwner_cases n u s <;> rw [e]
  · exact ⟨⟨_, _, rfl⟩, rfl, fun m k h hn => absurd (hown m h) hn⟩
  · obtain ⟨x, l, hx⟩ := giveReposition_fields m s
    refine ⟨⟨_, l, congrArg _ hx⟩, giveReposition_job_ne hm.symm, fun m' k h _ hk => ?_⟩
    obtain rfl : m = m' := Option.some.inj (hown.symm.trans h)
    exact giveReposition_told hk

/-- The new owner's unit keeps a seek recovery of the new owner. -/
theorem becomeOwner_unit (n : Nat) (u : UnitNo) (s : State) :
    ∃ m r, (becomeOwner n u s).unit u = { s.unit u with motion := m, recovery := r, owner := some n } ∧
      ∀ x, (s.unit u).recovery = some x → x.issuer = .job n → r = some x := by
  obtain ⟨-, e⟩ | ⟨m, -, hm, e⟩ := becomeOwner_cases n u s <;> rw [e, modUnit_unit_same]
  · exact ⟨_, _, rfl, fun _ h _ => h⟩
  · obtain ⟨a, r, o, hunit, hr⟩ := giveReposition_unit m u s
    exact ⟨a, r, by rw [hunit], fun x hx hi => hr x hx (by rw [hi]; simpa using hm.symm)⟩

/-! ### A positioning command of a job (R22, R95) -/

/-- What a positioning command is at the drive face. -/
def Command.emission (u : UnitNo) : Command → Emission
  | .seek cmd _ _ => .driveSeek u cmd
  | .strobe x => .driveStrobe u x
  | .offset x => .driveOffset u x

/-- The UNIT SELECT that a command on unit `u` needs (R43). -/
def State.selecting (s : State) (u : UnitNo) : List Emission :=
  if s.selected = some u then [] else [.driveSelect u]

/-- Job `j` as it goes out with a command: its unit's owner, and POSITIONING. -/
def State.positioned (s : State) (j : Job) : State :=
  modJob j.number (fun j => { j with state := .positioning }) (becomeOwner j.number j.unit s)

theorem startSeek_eq (i : Issuer) (u : UnitNo) (cmd : SeekCmd) (forAction retry : Bool) (s : State) :
    startSeek i u cmd forAction retry s = { s with
      selected := some u
      units := s.units.set u { s.unit u with
        driveCyl := none, onCylinderLine := false, seekFaultLine := false
        motion := some (seekMotion i cmd forAction)
        recovery := if retry then (s.unit u).recovery.map Recovery.advance else none }
      out := s.out ++ s.selecting u ++ [.driveSeek u cmd] } := by
  have htarget : seekTarget cmd = (seekMotion i cmd forAction).target := by cases cmd <;> rfl
  simp only [startSeek, headsMove, selectDrive_eq, modUnit_modUnit, htarget]
  rfl

theorem sendStrobe_eq (u : UnitNo) (x : Strobe) (s : State) : ∃ l, sendStrobe u x s = { s with
    selected := some u, units := s.units.set u { s.unit u with strobe := some x }, items := l
    out := s.out ++ s.selecting u ++ [.driveStrobe u x] } :=
  ⟨_, by rw [sendStrobe, selectDrive_eq]; rfl⟩

theorem sendOffset_eq (u : UnitNo) (x : HeadOffset) (s : State) : ∃ l, sendOffset u x s = { s with
    selected := some u, units := s.units.set u { s.unit u with offset := some x }, items := l
    out := s.out ++ s.selecting u ++ [.driveOffset u x] } :=
  ⟨_, by rw [sendOffset, selectDrive_eq]; rfl⟩

/-- A job's command goes out on the drive face, and leaves the jobs and the owner as `State.positioned` has
them. -/
theorem grantCommand_sent (j : Job) (c : Command) (s : State) :
    (grantCommand j c s).out = s.out ++ s.selecting j.unit ++ [c.emission j.unit] ∧
      (grantCommand j c s).jobs = (s.positioned j).jobs ∧
      ((grantCommand j c s).unit j.unit).owner = some j.number := by
  obtain ⟨x, l, e⟩ := (becomeOwner_told j.number j.unit s).fields
  obtain ⟨a, r, hunit, -⟩ := becomeOwner_unit j.number j.unit s
  have howner : ((s.positioned j).unit j.unit).owner = some j.number := (congrArg UnitEntry.owner hunit).trans rfl
  have hout : (s.positioned j).out = s.out := by rw [State.positioned, e]; rfl
  have hsel : (s.positioned j).selecting = s.selecting := by rw [State.positioned, e]; rfl
  cases c with
  | seek cmd forAction retry =>
    have h : grantCommand j (.seek cmd forAction retry) s = _ :=
      startSeek_eq (.job j.number) j.unit cmd forAction retry (s.positioned j)
    rw [h, hout, hsel]
    exact ⟨rfl, rfl, by rw [State.unit, Table.get_set_same]; exact howner⟩
  | strobe y =>
    obtain ⟨i, h⟩ := sendStrobe_eq j.unit y (s.positioned j)
    change grantCommand j (.strobe y) s = _ at h
    rw [h, hout, hsel]
    exact ⟨rfl, rfl, by rw [State.unit, Table.get_set_same]; exact howner⟩
  | offset y =>
    obtain ⟨i, h⟩ := sendOffset_eq j.unit y (s.positioned j)
    change grantCommand j (.offset y) s = _ at h
    rw [h, hout, hsel]
    exact ⟨rfl, rfl, by rw [State.unit, Table.get_set_same]; exact howner⟩

theorem positioned_job {j : Job} (hj : s.job j.number = some j) :
    (s.positioned j).job j.number = some { j with state := .positioning } :=
  modJob_job_some ((becomeOwner_told j.number j.unit s).job.trans hj) _ fun _ => rfl

/-- The unit after a retry's command of its job (R51). -/
theorem grantCommand_retry_unit {j : Job} {r : Recovery} (cmd : SeekCmd) (forAction : Bool)
    (hr : (s.unit j.unit).recovery = some r) (hi : r.issuer = .job j.number) :
    (grantCommand j (.seek cmd forAction true) s).unit j.unit = { s.unit j.unit with
      owner := some j.number, driveCyl := none, onCylinderLine := false, seekFaultLine := false
      motion := some (seekMotion (.job j.number) cmd forAction), recovery := some r.advance } := by
  obtain ⟨a, b, hunit, hkept⟩ := becomeOwner_unit j.number j.unit s
  obtain rfl := hkept r hr hi
  have h : grantCommand j (.seek cmd forAction true) s = _ :=
    startSeek_eq (.job j.number) j.unit cmd forAction true (s.positioned j)
  have hpos : (s.positioned j).unit j.unit = _ := hunit
  rw [h, hpos, State.unit, Table.get_set_same]
  rfl

/-! ### Which command is due (R51, R95 to R97) -/

theorem nextCommand_plain {j : Job} (h : ∀ r ∈ (s.unit j.unit).recovery, r.issuer ≠ .job j.number) :
    s.nextCommand j = s.plainCommand j := by
  unfold State.nextCommand
  split
  · rename_i r hr
    exact if_neg (h r hr)
  · rfl

theorem nextCommand_retry {j : Job} {r next : Recovery} {c : SeekCmd} (hr : (s.unit j.unit).recovery = some r)
    (hi : r.issuer = .job j.number) (hg : r.granted c next) :
    s.nextCommand j = some (.seek c r.forAction true) ∧ r.advance = next := by
  have hnext : s.nextCommand j = retryCommand r := by
    simp [State.nextCommand, hr, hi]
  rw [hnext]
  obtain ⟨hp, rfl, rfl⟩ | ⟨hp, rfl, rfl⟩ := hg <;> simp [retryCommand, Recovery.advance, hp]

theorem actionCommand_eq {a : Reposition} (ha : a ≠ .none) (second : Bool) (c cylinders : Nat) :
    actionCommand a second c cylinders = if second then .to c
      else if a = .zero ∨ cylinders ≤ 1 then .zero
      else if c + 1 < cylinders then .to (c + 1) else .to (c - 1) := by
  unfold actionCommand
  cases a <;> simp_all

section
variable {j : Job}

theorem plainCommand_action (ha : j.actionDue (s.planStep j) ≠ .none) : s.plainCommand j =
    some (.seek (actionCommand (j.actionDue (s.planStep j)) j.actionSecond j.cyl
      (s.unit j.unit).geometry.cylinders) true false) := by
  rw [State.actionDue_eq_actionOf] at ha ⊢
  simp [State.plainCommand, ha]

variable (ha : j.actionDue (s.planStep j) = .none)

include ha

theorem plainCommand_seek (hc : (s.unit j.unit).driveCyl ≠ some j.cyl) :
    s.plainCommand j = some (.seek (.to j.cyl) false false) := by
  rw [State.actionDue_eq_actionOf] at ha
  simp [State.plainCommand, ha, hc]

theorem plainCommand_strobe (hc : (s.unit j.unit).driveCyl = some j.cyl)
    (hs : (s.unit j.unit).strobe ≠ some (s.planStep j).strobe) :
    s.plainCommand j = some (.strobe (s.planStep j).strobe) := by
  rw [State.actionDue_eq_actionOf] at ha
  rw [State.planStep_eq_stepOf] at hs ⊢
  simp [State.plainCommand, ha, hc, hs]

theorem plainCommand_offset (hc : (s.unit j.unit).driveCyl = some j.cyl)
    (hs : (s.unit j.unit).strobe = some (s.planStep j).strobe)
    (ho : (s.unit j.unit).offset ≠ some (s.planStep j).offset) :
    s.plainCommand j = some (.offset (s.planStep j).offset) := by
  rw [State.actionDue_eq_actionOf] at ha
  rw [State.planStep_eq_stepOf] at hs ho ⊢
  simp [State.plainCommand, ha, hc, hs, ho]

end

/-! ### A job granted -/

/-- A job that is not in AWAITING is granted its command, or nothing. -/
theorem grantJob_command {j : Job} (hs : j.state ≠ .awaiting) :
    grantJob j s = match s.nextCommand j with
      | some c => grantCommand j c s
      | none => s := by
  unfold grantJob
  cases h : j.state <;> first | rfl | exact absurd h hs

theorem grantJob_some {j : Job} {c : Command} (hs : j.state = .queued ∨ j.state = .positioning)
    (hc : s.nextCommand j = some c) : grantJob j s = grantCommand j c s := by
  rw [grantJob_command (by rintro h; simp [h] at hs), hc]

/-- A command granted is the last that goes out, and the job owns its unit. -/
theorem grantJob_sends {j : Job} {c : Command} (hs : j.state = .queued ∨ j.state = .positioning)
    (hc : s.nextCommand j = some c) : ((grantJob j s).unit j.unit).owner = some j.number ∧
      (grantJob j s).out.getLast? = some (c.emission j.unit) := by
  rw [grantJob_some hs hc]
  obtain ⟨hout, -, howner⟩ := grantCommand_sent j c s
  exact ⟨howner, by rw [hout, List.getLast?_concat]⟩

/-- A job's record once its read is on the cable (R94, R100, R128). -/
def Job.onCable (credit : Nat) (j : Job) : Job :=
  let j := { j with state := .capturing, readCredit := credit, filling := [] }
  match j.kind with
  | .sector => { j with attemptsMade := saturate j.attemptsMade 1 }
  | .track => { j with
      revOffTrack := 0
      reseeks := if j.trackReseek then j.reseeks + 1 else j.reseeks
      trackReseek := false
      rows := j.rows.map fun r => { r with capturedNow := false, cleanNow := false } }

theorem Job.onCable_number (credit : Nat) (j : Job) : (j.onCable credit).number = j.number := by
  unfold Job.onCable
  cases j.kind <;> rfl

/-- The grant of a job's read (R44, R64). -/
def Job.readGrant (j : Job) : Grant :=
  { holder := .job j.number, op := readOp j, unit := j.unit, cyl := j.cyl, slots := j.filling
    nextMark := 0, abandoned := false }

/-- `s` when job `j` has been granted its read, and has taken its unit from another that owned it (R48). -/
def State.readOwned (s : State) (j : Job) : State :=
  match (s.unit j.unit).owner with
  | some m => if m = j.number then s else becomeOwner j.number j.unit s
  | none => s

theorem readOwned_told (j : Job) (s : State) : OwnerTold j.number j.unit s (s.readOwned j) ∧
    ((s.readOwned j).unit j.unit).owner = (s.unit j.unit).owner.map fun _ => j.number := by
  have same : (∀ m, (s.unit j.unit).owner = some m → m = j.number) → OwnerTold j.number j.unit s s :=
    fun h => ⟨⟨_, _, rfl⟩, rfl, fun m _ hm hn => absurd (h m hm) hn⟩
  unfold State.readOwned
  cases ho : (s.unit j.unit).owner with
  | none => exact ⟨same (by simp [ho]), ho⟩
  | some m =>
    by_cases hm : m = j.number
    · simp only [hm, if_true]
      exact ⟨same (by simp [ho, hm]), by rw [ho, hm]; rfl⟩
    · simp only [hm, if_false]
      obtain ⟨a, r, hunit, -⟩ := becomeOwner_unit j.number j.unit s
      exact ⟨becomeOwner_told _ _ _, by rw [hunit]; rfl⟩

/-- A job's read goes on the cable. -/
theorem grantRead_eq (j : Job) (s : State) : grantRead j s = modJob j.number (Job.onCable (s.planStep j).credit)
    { s.readOwned j with
      selected := some j.unit, grant := some j.readGrant
      out := s.out ++ s.selecting j.unit ++ [.driveOp j.unit (readOp j)] } := by
  have e : ∀ t, t = emit (.driveOp j.unit (readOp j)) (selectDrive j.unit (s.readOwned j)) →
      grantRead j s = modJob j.number (Job.onCable (t.stepOf j).credit) { t with grant := some j.readGrant } :=
    fun t ht => ht ▸ rfl
  obtain ⟨x, l, h⟩ := (readOwned_told j s).1.fields
  rw [e _ rfl, selectDrive_eq, s.planStep_eq_stepOf j, h]
  rfl

/-! ### What a grant comes to -/

/-- A job in AWAITING gets its read, any other its command or nothing. -/
theorem grantJob_cases (j : Job) (s : State) :
    j.state = .awaiting ∧ grantJob j s = grantRead j s ∨
    j.state ≠ .awaiting ∧ (grantJob j s = s ∨ ∃ c, grantJob j s = grantCommand j c s) := by
  by_cases h : j.state = .awaiting
  · exact .inl ⟨h, by simp [grantJob, h]⟩
  · refine .inr ⟨h, ?_⟩
    rw [grantJob_command h]
    split
    · exact .inr ⟨_, rfl⟩
    · exact .inl rfl

/-- The former owner of the unit has been told wherever something has gone out (R48, log 24). -/
theorem grantJob_told {j k : Job} {n : Nat} (hout : (grantJob j s).out ≠ s.out)
    (ho : (s.unit j.unit).owner = some n) (hn : n ≠ j.number) (hk : s.job n = some k) :
    ∃ x, (grantJob j s).job n = some x ∧ k.toldMoved x := by
  obtain ⟨-, e⟩ | ⟨-, e | ⟨c, e⟩⟩ := grantJob_cases j s
  · rw [e, grantRead_eq]
    obtain ⟨x, hx, htold⟩ := (readOwned_told j s).1.told n k ho hn hk
    exact ⟨x, (modJob_job_ne _ _ (Job.onCable_number _) hn).trans hx, htold⟩
  · exact absurd (by rw [e]) hout
  · obtain ⟨-, hjobs, -⟩ := grantCommand_sent j c s
    obtain ⟨x, hx, htold⟩ := (becomeOwner_told j.number j.unit s).told n k ho hn hk
    have hjob : (grantCommand j c s).job n = (s.positioned j).job n := by
      rw [State.job, State.jobList, hjobs]
      rfl
    rw [e, hjob]
    exact ⟨x, (modJob_job_ne _ (fun k : Job => { k with state := .positioning }) (fun _ => rfl) hn).trans hx, htold⟩

theorem grantCommand_job {j : Job} (c : Command) (hj : s.job j.number = some j) :
    (grantCommand j c s).job j.number = some { j with state := .positioning } := by
  obtain ⟨-, hjobs, -⟩ := grantCommand_sent j c s
  rw [State.job, State.jobList, hjobs]
  exact positioned_job hj

/-- The read of job `j` on the cable, and the job CAPTURING (R94, R100, R128). -/
theorem grantJob_read {j : Job} (hs : j.state = .awaiting) (hj : s.job j.number = some j) :
    (∃ x l, grantJob j s = { s with
      units := x, jobs := l, selected := some j.unit, grant := some j.readGrant
      out := s.out ++ s.selecting j.unit ++ [.driveOp j.unit (readOp j)] }) ∧
    ((grantJob j s).unit j.unit).owner = (s.unit j.unit).owner.map (fun _ => j.number) ∧
    (grantJob j s).job j.number = some (j.onCable (s.planStep j).credit) := by
  obtain ⟨htold, howner⟩ := readOwned_told j s
  obtain ⟨x, l, h⟩ := htold.fields
  have e : grantJob j s = grantRead j s := by simp [grantJob, hs]
  rw [e, grantRead_eq]
  refine ⟨⟨x, _, by rw [h]; rfl⟩, howner, ?_⟩
  exact modJob_job_some (htold.job.trans hj) _ (Job.onCable_number _)

theorem Job.onCable_eq (credit : Nat) (j : Job) : j.onCable credit = match j.kind with
    | .sector => { j with
        state := .capturing, readCredit := credit, filling := []
        attemptsMade := min 4095 (j.attemptsMade + 1) }
    | .track => { j with
        state := .capturing, readCredit := credit, filling := [], revOffTrack := 0
        reseeks := if j.trackReseek then j.reseeks + 1 else j.reseeks
        trackReseek := false
        rows := j.rows.map fun r => { r with capturedNow := false, cleanNow := false } } := by
  unfold Job.onCable
  cases j.kind <;> rfl

/-- Settles O22: the choice is `decideGrant`'s, and what is granted the command of R95, of R51, or the read. -/
theorem grantOrder : Obligations.GrantOrder := by
  intro s noise hopen
  have items : (beginCommand noise s).itemEligible = s.itemMayGo :=
    funext fun i => (s.itemMayGo_eq_itemEligible i).symm
  refine ⟨fun hg => ?_, fun hg => ⟨fun older newer i hitems holder hi => ?_, fun hnone => ?_⟩, ?_⟩
  · have hbusy : (beginCommand noise s).grant ≠ none := hg
    rw [exec_grant noise hopen, decideGrant_busy hbusy]
    rfl
  · have hfind : (beginCommand noise s).items.find? (beginCommand noise s).itemEligible = some i := by
      rw [items]
      exact List.find?_eq_some_iff_append.2 ⟨hi, older, newer, hitems, fun x hx => by simp [holder x hx]⟩
    have hfree : (beginCommand noise s).grant = none := hg
    rw [exec_grant noise hopen, decideGrant_item hfree hfind]
  · have hfree : (beginCommand noise s).grant = none := hg
    have hitem : (beginCommand noise s).items.find? (beginCommand noise s).itemEligible = none := by
      rw [items]
      exact List.find?_eq_none.2 fun x hx => by simp [hnone x hx]
    have jobs : ∀ j, (beginCommand noise s).eligible j = s.jobMayGo j := fun j =>
      (s.jobMayGo_eq_eligible j hg).symm
    have mem : ∀ j, j ∈ (beginCommand noise s).grantOrder ↔ j ∈ s.jobList := fun j => (sortBy_perm _ _).mem_iff
    refine ⟨fun hidle => ?_, fun ⟨k, hk, hmay⟩ => ?_⟩
    · have hjob : (beginCommand noise s).grantOrder.find? (beginCommand noise s).eligible = none :=
        List.find?_eq_none.2 fun j hj => by simp [jobs j, hidle j ((mem j).1 hj)]
      rw [exec_grant noise hopen, decideGrant_idle hfree hitem hjob]
      rfl
    · obtain ⟨j, hj⟩ := Option.isSome_iff_exists.1
        (List.find?_isSome.2 ⟨k, (mem k).2 hk, (jobs k).trans hmay⟩)
      obtain ⟨hmem, he, hleast⟩ := grantOrder_find? hj
      exact ⟨j, hmem, (jobs j).symm.trans he, fun k hk hmay => hleast k hk ((jobs k).trans hmay),
        by rw [exec_grant noise hopen, decideGrant_job hfree hitem hj]⟩
  · rintro j _ _ _ _ _ rfl rfl rfl rfl rfl
    have hb : ∀ c, s.nextCommand j = some c → (beginCommand noise s).nextCommand j = some c := fun _ => id
    refine ⟨fun hs hr => ?_, fun r next c hs hj hr hi hgranted => ?_, fun hs hj => ?_, fun hs hj hout => ?_,
      fun n k ho hn hk hout => grantJob_told hout ho hn hk⟩
    · have plain := nextCommand_plain hr
      refine ⟨fun ha => ?_, fun ha hc => ?_, fun ha hc hstrobe => ?_, fun ha hc hstrobe hoffset => ?_⟩
      · have sent := grantJob_sends hs (hb _ (plain.trans (plainCommand_action ha)))
        rwa [actionCommand_eq ha] at sent
      · exact grantJob_sends hs (hb _ (plain.trans (plainCommand_seek ha hc)))
      · exact grantJob_sends hs (hb _ (plain.trans (plainCommand_strobe ha hc hstrobe)))
      · exact grantJob_sends hs (hb _ (plain.trans (plainCommand_offset ha hc hstrobe hoffset)))
    · obtain ⟨hnext, hadvance⟩ := nextCommand_retry hr hi hgranted
      rw [grantJob_some hs (hb _ hnext)]
      refine ⟨(grantCommand_sent j _ _).1, ?_, grantCommand_job _ hj⟩
      rw [← hadvance]
      exact grantCommand_retry_unit c r.forAction hr hi
    · obtain ⟨⟨x, l, e⟩, howner, hjob⟩ := grantJob_read (s := beginCommand noise s) hs hj
      rw [Job.onCable_eq] at hjob
      exact ⟨by rw [e]; rfl, howner, hjob⟩
    · obtain ⟨ha, -⟩ | ⟨-, e | ⟨c, e⟩⟩ := grantJob_cases j (beginCommand noise s)
      · simp [ha] at hs
      · exact absurd (by rw [e]; rfl) hout
      · exact ⟨_, by rw [e]; exact grantCommand_job c hj, rfl⟩

end Sys2Proof.Machine
end

section
/-! SUPPORT. What the end of a job, whatever its ending and whatever read is taken up again, leaves as it was:
the drives' side of the units, the relay's margin and seek items, whose unit the grant is on, and which jobs
there can be (R25, R37, R87, R90). -/

namespace Sys2Proof.Machine

variable {s : State}

/-! ### What stands -/

/-- `e'` is unit `e` with work on it given up, a hold ended or begun, and counters advanced. -/
structure UnitEntry.Released (e e' : UnitEntry) : Prop where
  fields : ∃ m r o h c,
    e' = { e with motion := m, recovery := r, owner := o, hold := h, counters := c }
  motion : e.motion = none → e'.motion = none
  recovery : e.recovery = none → e'.recovery = none
  owner : ∀ n, e'.owner = some n → e.owner = some n

namespace UnitEntry.Released

variable {e e' e'' : UnitEntry}

theorem refl : e.Released e := ⟨⟨_, _, _, _, _, rfl⟩, id, id, fun _ => id⟩

theorem trans (h : e.Released e') (g : e'.Released e'') : e.Released e'' where
  fields := by
    obtain ⟨_, _, _, _, _, rfl⟩ := h.fields
    obtain ⟨m, r, o, h, c, rfl⟩ := g.fields
    exact ⟨m, r, o, h, c, rfl⟩
  motion m := g.motion (h.motion m)
  recovery r := g.recovery (h.recovery r)
  owner n o := h.owner n (g.owner n o)

/-- What the entry shows of the drive, and the pack generation, stay. -/
theorem face {α : Type} (h : e.Released e') (f : UnitEntry → α)
    (hf : ∀ e m r o h c, f { e with motion := m, recovery := r, owner := o, hold := h, counters := c } = f e) :
    f e' = f e := by
  obtain ⟨m, r, o, h, c, rfl⟩ := h.fields
  exact hf ..

end UnitEntry.Released

/-! ### Banks out of service (R69) -/

theorem retireBank_bankRetired (b c : Fin 2) (h : s.bankRetired c = true) :
    (retireBank b s).bankRetired c = true := by
  obtain ⟨⟨l, e⟩, -⟩ := trimClaims_onlyReserves (noteBankRetired { s with
    banks := s.banks.set b { s.banks.get b with retired := true }
    slots := s.slots.mapWithIndex fun i x =>
      if i % 2 = b.val ∧ x.state = .free then { x with state := .retired } else x })
  change retireBank b s = _ at e
  rw [e]
  change ((s.banks.set b { s.banks.get b with retired := true }).get c).retired = true
  rw [Table.get_set]
  split
  · rfl
  · exact h

theorem countParity_bankRetired (b c : Fin 2) (h : s.bankRetired c = true) :
    (countParity b s).bankRetired c = true := by
  have counted : ∀ k, State.bankRetired { s with
      banks := s.banks.set b { s.banks.get b with parity := k } } c = true := fun k => by
    rw [State.bankRetired, Table.get_set]
    split
    · subst_vars
      exact h
    · exact h
  obtain ⟨-, e⟩ | ⟨t, rfl, ⟨-, e⟩ | ⟨-, e⟩⟩ := countParity_cases s b <;> rw [e]
  · exact h
  · exact counted _
  · exact retireBank_bankRetired b c (counted _)

/-- A bank out of service stays so through a readout. -/
theorem readSlot_bankRetired (s : State) (i : SlotId) (start len : Nat) (c : Fin 2)
    (h : s.bankRetired c = true) : (readSlot i start len s).2.bankRetired c = true := by
  obtain ⟨-, e⟩ | ⟨-, e⟩ := readSlot_cases s i start len <;> rw [e]
  · exact h
  · exact countParity_bankRetired _ c h

/-! ### What follows on the end of a job -/

/-- Slot `i` is in a retired bank and out of the relay's hands, so that no read of the relay takes it again. -/
def State.outOfUse (s : State) (i : SlotId) : Prop :=
  s.bankRetired (bankOf i) = true ∧ (s.slot i).state ≠ .free ∧ (s.slot i).owner ≠ some .relay

/-- `t` follows on `s` by the ends of jobs, answers, and reads taken up on units of `p`. -/
structure Follows (p : UnitNo → Prop) (s t : State) : Prop where
  unit : ∀ v, (s.unit v).Released (t.unit v)
  items : ∀ i : Item, i.isOperation = false → (i ∈ t.items ↔ i ∈ s.items)
  grant : ∀ g, t.grant = some g → ∃ x, s.grant = some x ∧ x.unit = g.unit
  jobs : ∀ j ∈ t.jobList, ∃ x ∈ s.jobList, x.number = j.number ∧ x.unit = j.unit ∧
    (j.foreground = true → x.foreground = true ∨ ∃ v, p v)
  current : ∀ op, t.current = some op → s.current = some op ∨ p op.unit
  fault : (∀ v, p v → (s.unit v).controllerCyl ≠ some 1023) →
    s.notices.driveFault = true → t.notices.driveFault = true
  outOfUse : ∀ i, s.outOfUse i → t.outOfUse i

namespace Follows

variable {p : UnitNo → Prop} {t r : State}

theorem refl : Follows p s s :=
  ⟨fun _ => .refl, fun _ _ => .rfl, fun g h => ⟨g, h, rfl⟩, fun j h => ⟨j, h, rfl, rfl, .inl⟩, fun _ => .inl,
    fun _ => id, fun _ => id⟩

theorem trans (h : Follows p s t) (g : Follows p t r) : Follows p s r where
  unit v := (h.unit v).trans (g.unit v)
  items i hi := (g.items i hi).trans (h.items i hi)
  grant x hx := by
    obtain ⟨y, hy, e⟩ := g.grant x hx
    obtain ⟨z, hz, e'⟩ := h.grant y hy
    exact ⟨z, hz, e'.trans e⟩
  jobs j hj := by
    obtain ⟨y, hy, hn, hu, hf⟩ := g.jobs j hj
    obtain ⟨z, hz, hn', hu', hf'⟩ := h.jobs y hy
    exact ⟨z, hz, hn'.trans hn, hu'.trans hu, fun e => (hf e).elim hf' .inr⟩
  current op e := (g.current op e).elim (h.current op) .inr
  fault hp e := g.fault (fun v hv => by
    rw [(h.unit v).face UnitEntry.controllerCyl fun _ _ _ _ _ _ => rfl]
    exact hp v hv) (h.fault hp e)
  outOfUse i e := g.outOfUse i (h.outOfUse i e)

/-! ### Plain updates -/

theorem emit (h : Follows p s t) (e : Emission) : Follows p s (emit e t) := { h with }

theorem units (h : Follows p s t) {x : Table UnitEntry 4} (hx : ∀ v, (t.unit v).Released (x.get v)) :
    Follows p s { t with units := x } := { h with unit := fun v => (h.unit v).trans (hx v) }

theorem modUnit (h : Follows p s t) (u : UnitNo) (f : UnitEntry → UnitEntry)
    (hf : ∀ e : UnitEntry, e.Released (f e)) : Follows p s (modUnit u f t) :=
  h.units fun v => by
    rw [Table.get_set]
    split
    · subst_vars
      exact hf _
    · exact .refl

theorem leaveArbiter (h : Follows p s t) (n : Nat) : Follows p s (leaveArbiter n t) :=
  h.units fun v => by
    rw [Table.get_map]
    refine ⟨⟨_, _, _, _, _, rfl⟩, fun e => ?_, fun e => ?_, fun m e => (Option.filter_eq_some_iff.1 e).1⟩
    · change Option.map _ (t.unit v).motion = none
      rw [e]
      rfl
    · change Option.filter _ (t.unit v).recovery = none
      rw [e]
      rfl

theorem modJob (h : Follows p s t) (n : Nat) (f : Job → Job)
    (hf : ∀ j, (f j).number = j.number ∧ (f j).unit = j.unit ∧
      ((f j).foreground = true → j.foreground = true ∨ ∃ v, p v)) : Follows p s (modJob n f t) where
  __ := h
  jobs j hj := by
    rw [modJob_jobList] at hj
    obtain ⟨k, hk, rfl⟩ := List.mem_map.1 hj
    obtain ⟨x, hx, hn, hu, hfg⟩ := h.jobs k hk
    split
    · obtain ⟨en, eu, ef⟩ := hf k
      exact ⟨x, hx, hn.trans en.symm, hu.trans eu.symm, fun e => (ef e).elim hfg .inr⟩
    · exact ⟨x, hx, hn, hu, hfg⟩

theorem dropJob (h : Follows p s t) (n : Nat) : Follows p s (dropJob n t) where
  __ := h
  jobs j hj := by
    rw [dropJob_jobList] at hj
    exact h.jobs j (List.mem_of_mem_filter hj)

theorem onlyReserves (h : Follows p s t) (g : OnlyReserves t r) : Follows p s r := by
  obtain ⟨⟨x, rfl⟩, hjobs⟩ := g
  refine { h with jobs := fun j hj => ?_ }
  have hmem : j.unreserved ∈ t.jobList.map Job.unreserved := hjobs ▸ List.mem_map_of_mem hj
  obtain ⟨k, hk, e⟩ := List.mem_map.1 hmem
  rw [Job.eq_of_unreserved e.symm]
  exact h.jobs k hk

theorem modSlot (h : Follows p s t) (i : SlotId) (f : Slot → Slot)
    (hf : t.outOfUse i → (f (t.slot i)).state ≠ .free ∧ (f (t.slot i)).owner ≠ some .relay) :
    Follows p s (modSlot i f t) where
  __ := h
  outOfUse k hk := by
    have gone := h.outOfUse k hk
    by_cases e : k = i
    · subst e
      exact ⟨gone.1, by rw [modSlot_slot_same]; exact hf gone⟩
    · exact ⟨gone.1, by rw [modSlot_slot_ne t f e]; exact gone.2⟩

theorem freeSlot (h : Follows p s t) (i : SlotId) : Follows p s (freeSlot i t) :=
  h.modSlot i _ fun gone => by simp [gone.1, Slot.free]

theorem fillFor (h : Follows p s t) {o : SlotOwner} {i : SlotId}
    (ho : (t.slot i).state = .free ∨ o ≠ .relay) : Follows p s (fillFor o i t) :=
  h.modSlot i _ fun gone => ⟨by simp, by simpa using ho.resolve_left gone.2.1⟩

theorem appendRecord (h : Follows p s t) (x : Record) : Follows p s (appendRecord x t) := by
  obtain ⟨-, e⟩ | ⟨-, e⟩ := appendRecord_cases t x <;> rw [e]
  · exact { h with }
  · exact { h with }

theorem clearOperation (h : Follows p s t) : Follows p s (clearOperation t) where
  __ := h
  items i hi := by simp [hi, h.items i hi]
  current := nofun

theorem addOperation (h : Follows p s t) (u : UnitNo) : Follows p s (addItem (.operation u) t) where
  __ := h
  items i hi := by
    have hne : i ≠ .operation u := by
      rintro rfl
      cases hi
    simp [hne, h.items i hi]

/-! ### Slots and readouts (R67 to R69) -/

theorem releaseSlot (h : Follows p s t) (i : SlotId) : Follows p s (releaseSlot i t) := by
  obtain ⟨-, e⟩ | ⟨-, e⟩ | ⟨n, -, e | ⟨-, -, e⟩⟩ := releaseSlot_cases t i <;> rw [e]
  · exact h
  · exact (h.freeSlot i).onlyReserves (restoreReservations_onlyReserves _)
  · exact h.freeSlot i
  · exact (h.modJob n _ (by intro; exact ⟨rfl, rfl, .inl⟩)).freeSlot i

theorem releaseJobSlots (h : Follows p s t) (n : Nat) : Follows p s (releaseJobSlots n t) :=
  releaseSlots_induct _ (Follows p s) (fun i _ hi => hi.releaseSlot i) _ h

theorem takeRelaySlot (h : Follows p s t) : Follows p s (takeRelaySlot t).2 := by
  obtain e | ⟨i, -, hi, e⟩ := takeRelaySlot_cases t <;> rw [e]
  · exact h
  · exact h.fillFor (.inl (by simpa using List.find?_some hi))

theorem readSlot (h : Follows p s t) (i : SlotId) (start len : Nat) :
    Follows p s (readSlot i start len t).2 := by
  have read := readOut_readSlot t i start len
  obtain ⟨b, x, l, n, w, e⟩ := read.fields
  have retired := readSlot_bankRetired t i start len
  rw [e] at read retired ⊢
  have base : Follows p s { t with jobs := l } := h.onlyReserves ⟨⟨l, rfl⟩, read.jobs⟩
  refine { base with outOfUse := fun k hk => ?_ }
  obtain ⟨hb, hs, ho⟩ := h.outOfUse k hk
  refine ⟨retired _ hb, ?_⟩
  rw [read.used k hs]
  exact ⟨hs, ho⟩

theorem readData (h : Follows p s t) (i : SlotId) : Follows p s (readData i t).2 := h.readSlot i 3 256

theorem readWhole (h : Follows p s t) (i : SlotId) : Follows p s (readWhole i t).2 := h.readSlot i 0 260

/-! ### Answers (R19, R33, R81) -/

theorem endHold (h : Follows p s t) (u : UnitNo) : Follows p s (endHold u t) := by
  have ended : Follows p s (Machine.modUnit u (fun e => { e with hold := none }) t) :=
    h.modUnit u _ fun _ => ⟨⟨_, _, _, _, _, rfl⟩, id, id, fun _ => id⟩
  obtain ⟨-, e⟩ | ⟨_, j, -, -, -, e⟩ | ⟨_, -, -, e⟩ := endHold_cases t u _ rfl <;> rw [e]
  · exact h
  · exact ended.modJob _ _ (by intro; exact ⟨rfl, rfl, .inl⟩)
  · exact ended

theorem releaseForeground (h : Follows p s t) : Follows p s (releaseForeground t) := by
  obtain ⟨-, e⟩ | ⟨j, -, e⟩ := releaseForeground_cases t <;> rw [e]
  · exact h
  · exact h.modJob _ _ (by intro; exact ⟨rfl, rfl, nofun⟩)

theorem answerCurrent (h : Follows p s t) (a : Answer) : Follows p s (answerCurrent a t) := by
  obtain ⟨-, e⟩ | ⟨op, -, e⟩ := answerCurrent_cases t a <;> rw [e]
  · exact h
  · exact ((h.emit _).endHold _).releaseForeground.clearOperation

theorem answerData (h : Follows p s t) (data : List Word) : Follows p s (answerData data t) := by
  unfold Machine.answerData
  split
  · exact h
  · exact h.answerCurrent _

theorem dropHold (h : Follows p s t) : Follows p s (dropHold t) := by
  unfold Machine.dropHold
  split
  · exact h
  · exact (h.endHold _).releaseForeground

theorem letThrough (h : Follows p s t) : Follows p s (letThrough t) := by
  unfold Machine.letThrough
  split
  · exact h
  · exact (h.emit _).dropHold

theorem forwardCapture (h : Follows p s t) (i : Option SlotId) : Follows p s (forwardCapture i t) := by
  unfold Machine.forwardCapture
  split
  · exact h.answerCurrent _
  · rename_i i
    have read := h.readWhole i
    split <;> rename_i e <;> rw [e] at read <;> exact read.answerCurrent _

theorem forwardFirstFiled (h : Follows p s t) (j : Job) : Follows p s (forwardFirstFiled j t).2 := by
  unfold Machine.forwardFirstFiled
  split
  · exact h
  · split
    · exact h
    · rename_i i _
      have read := h.readWhole i
      split <;> rename_i e <;> rw [e] at read
      · exact read.answerCurrent _
      · exact read

theorem deliverFirstClean (h : Follows p s t) : Follows p s (deliverFirstClean t) := by
  unfold Machine.deliverFirstClean
  split
  · split
    · split
      · exact h
      · rename_i i _
        have read := h.readData i
        split <;> rename_i e <;> rw [e] at read
        · exact read.answerData _
        · exact read
    · exact h
  · exact h

/-! ### A read taken up (R25) -/

theorem makeCurrent (h : Follows p s t) {op : ControllerOp} (hu : p op.unit) :
    Follows p s { t with current := some op } :=
  { h with current := fun _ e => .inr (Option.some.inj e ▸ hu) }

theorem beginHold (h : Follows p s t) (k : HoldKind) (op : ControllerOp) : Follows p s (beginHold k op t) :=
  h.modUnit _ _ fun _ => ⟨⟨_, _, _, _, _, rfl⟩, id, id, fun _ => id⟩

theorem claimDrive (h : Follows p s t) {op : ControllerOp} (hu : p op.unit) : Follows p s (claimDrive op t) := by
  have claimed := (h.makeCurrent hu).addOperation op.unit
  unfold Machine.claimDrive
  dsimp only
  split
  · exact claimed.beginHold _ _
  · exact claimed

theorem requestDrive (h : Follows p s t) {op : ControllerOp} (hu : p op.unit) :
    Follows p s (requestDrive op t) := by
  unfold Machine.requestDrive
  split
  · exact h.emit _
  · exact h.claimDrive hu

theorem requestPassRead (h : Follows p s t) (k : ReadKind) {a : Addr} (hu : p a.unit) :
    Follows p s (requestPassRead k a t) := by
  unfold Machine.requestPassRead
  split
  · exact h.emit _
  · exact h.takeRelaySlot.claimDrive hu

theorem promote (h : Follows p s t) (j : Job) {a : Addr} (hu : p a.unit) : Follows p s (promote j a t) := by
  have raised := (h.makeCurrent (op := ⟨a.unit, a.cyl, a.head, a.sector, .read .held, none, false⟩) hu).modJob
    j.number (fun j => { j with foreground := true }) fun _ => ⟨rfl, rfl, fun _ => .inr ⟨_, hu⟩⟩
  unfold Machine.promote
  dsimp only
  split
  · exact raised.beginHold _ _
  · exact (raised.beginHold _ _).deliverFirstClean

theorem readFromDrive (h : Follows p s t) {a : Addr} (hu : p a.unit) : Follows p s (readFromDrive a t) := by
  unfold Machine.readFromDrive
  dsimp only
  split
  · exact h.requestDrive hu
  · split
    · split
      · exact h.promote _ hu
      · exact h.requestPassRead _ hu
    · exact h.requestPassRead _ hu

theorem readEntry (h : Follows p s t) (e : Entry) : Follows p s (readEntry e t).2 := { h with }

theorem countUp (h : Follows p s t) (u : UnitNo) (f : Counters → Counters) : Follows p s (count u f t) :=
  h.modUnit u _ fun _ => ⟨⟨_, _, _, _, _, rfl⟩, id, id, fun _ => id⟩

theorem readFromStore (h : Follows p s t) {a : Addr} (hu : p a.unit) : Follows p s (readFromStore a t) := by
  unfold Machine.readFromStore
  split
  · exact h.readFromDrive hu
  · rename_i x _
    split
    · exact h.emit _
    · have read := h.readEntry x
      split <;> rename_i e <;> rw [e] at read
      · have hit : Follows p s (modEntry a (fun e => { e with hits := saturate e.hits 1 }) _) := { read with }
        exact (hit.countUp _ _).emit _
      · split
        · exact { read with }
        · have gone : Follows p s (removeEntry a _) := { read with }
          exact gone.readFromDrive hu

/-- A read of the maintenance cylinder alone takes a notice out (R170). -/
theorem takeRead (h : Follows p s t) {u : UnitNo} (hu : p u) (head sector : Nat) :
    Follows p s (takeRead u head sector t) := by
  unfold Machine.takeRead readMaintenance
  split
  · rename_i hmaint
    have away : (∀ v, p v → (s.unit v).controllerCyl ≠ some 1023) → False := fun hp =>
      hp u hu (((h.unit u).face UnitEntry.controllerCyl fun _ _ _ _ _ _ => rfl).symm.trans hmaint)
    split
    · have read : Follows p s (readResponse t) := { h with fault := fun hp => (away hp).elim }
      exact read.emit _
    · exact h.emit _
  · split
    · exact h.emit _
    · split
      · exact h.emit _
      · split
        · exact h.requestDrive hu
        · exact h.readFromStore hu

theorem retakeRead (h : Follows p s t) (hp : ∀ op, t.current = some op → p op.unit) :
    Follows p s (retakeRead t) := by
  unfold Machine.retakeRead
  split
  · exact h
  · exact h.clearOperation.takeRead (hp _ ‹_›) _ _

/-! ### Posting (R87) -/

theorem settleSector (h : Follows p s t) (j : Job) (e : Ending) : Follows p s (settleSector j e t).2 := by
  have fault : Follows p s (Machine.settleSector j .faultedSlot t).2 := by
    simp only [Machine.settleSector]
    split
    · rename_i i _
      exact h.forwardCapture (some i)
    · exact h.letThrough
  cases e with
  | clean _ => exact h.answerData _
  | recovered _ => exact h.answerData _
  | unrecovered => exact h.forwardCapture _
  | faultedSlot => exact fault
  | faultedSeek => exact fault
  | faultedDrive st => exact h.answerCurrent _
  | completed => exact h
  | cancelled => exact h
  | superseded => exact h
  | escalated => exact h

theorem settleTrack (h : Follows p s t) (j : Job) (e : Ending) : Follows p s (settleTrack j e t).2 := by
  have first := h.forwardFirstFiled j
  have fault : Follows p s (Machine.settleTrack j .faultedSlot t).2 := by
    simp only [Machine.settleTrack]
    split <;> rename_i e <;> rw [e] at first
    · exact first.letThrough
    · exact first
  have completed : Follows p s (Machine.settleTrack j .completed t).2 := by
    simp only [Machine.settleTrack]
    split
    · exact h
    · split
      · exact h.answerData _
      · split <;> rename_i e <;> rw [e] at first
        · exact first.dropHold
        · exact first
  cases e with
  | completed => exact completed
  | faultedSlot => exact fault
  | faultedSeek => exact fault
  | faultedDrive st => exact h.answerCurrent _
  | clean _ => exact h
  | recovered _ => exact h
  | unrecovered => exact h
  | cancelled => exact h
  | superseded => exact h
  | escalated => exact h

theorem settleHeld (h : Follows p s t) (j : Job) (e : Ending) : Follows p s (settleHeld j e t).2 := by
  unfold Machine.settleHeld
  split
  · split
    · exact h.settleSector j e
    · exact h.settleTrack j e
  · exact h

theorem offer (h : Follows p s t) (k : Addr) (o : StoreOrigin) (data : List Word) :
    Follows p s (offer k o data t).2 := by
  obtain ⟨_, -, -, -, e⟩ | ⟨_, -, -, e⟩ | ⟨-, ⟨-, e⟩ | ⟨-, ⟨_, -, e⟩ | ⟨-, e⟩⟩⟩ :=
    offer_cases t k o data _ rfl <;> rw [e] <;> exact { h with }

theorem offerRows (h : Follows p s t) (j : Job) (k : Nat) (rows : List SectorRow) :
    Follows p s (offerRows j k rows t).2 := by
  induction rows generalizing k t with
  | nil => exact h
  | cons r l ih =>
    unfold Machine.offerRows
    split
    · exact ih h (k + 1)
    · exact ih (h.offer ..) (k + 1)

theorem postResults (h : Follows p s t) (j : Job) (e : Ending) : Follows p s (postResults j e t) := by
  have counted : ∀ r, Follows p s r → Follows p s (countSectorEnding j.unit e r) := fun r hr => by
    unfold countSectorEnding
    split
    · exact hr.countUp _ _
    · exact hr.countUp _ _
    · exact hr.countUp _ _
    · exact hr.countUp _ _
    · exact hr.countUp _ _
    · exact hr
  unfold Machine.postResults
  split
  · refine (counted _ ?_).appendRecord _
    unfold offerResult
    split
    · exact h
    · exact h.offer ..
  · dsimp only
    split
    · exact (((h.offerRows ..).countUp _ _).countUp _ _).appendRecord _
    · exact h.appendRecord _

theorem giveUpWork (h : Follows p s t) (n : Nat) : Follows p s (giveUpWork n t) := by
  have abandoned : Follows p s { t with
      grant := t.grant.map fun g => if g.holder = .job n then { g with abandoned := true } else g } := by
    refine { h with grant := fun g hg => ?_ }
    obtain ⟨x, hx, rfl⟩ := Option.map_eq_some_iff.1 hg
    obtain ⟨y, hy, e⟩ := h.grant x hx
    exact ⟨y, hy, by rw [e]; split <;> rfl⟩
  exact abandoned.leaveArbiter n

/-- What of a job's ending follows on its work's being given up. -/
theorem posted (h : Follows p s t) (j : Job) (n : Nat) (e : Ending) :
    Follows p s (restoreReservations (Machine.dropJob n (Machine.releaseJobSlots n
      (noteJobEnded (Machine.postResults j e t))))) := by
  have noted : Follows p s (noteJobEnded (Machine.postResults j e t)) := { h.postResults j e with }
  exact ((noted.releaseJobSlots n).dropJob n).onlyReserves (restoreReservations_onlyReserves _)

end Follows

/-! ### Which reads can be taken up again -/

/-- A read that the end of a job of `s` can have taken up again is on a unit of `p`: the current operation is,
or else no controller waits for a job. -/
def State.ReadsOn (p : UnitNo → Prop) (s : State) : Prop :=
  (∀ op, s.current = some op → p op.unit) ∨ (∀ v, ¬p v) ∧ ∀ j ∈ s.jobList, j.foreground = false

namespace Follows

variable {p : UnitNo → Prop} {t : State}

theorem background (h : Follows p s t) (hp : ∀ v, ¬p v) (hb : ∀ j ∈ s.jobList, j.foreground = false) :
    ∀ j ∈ t.jobList, j.foreground = false := fun j hj => by
  obtain ⟨x, hx, -, -, hf⟩ := h.jobs j hj
  refine Bool.eq_false_iff.2 fun e => ?_
  rcases hf e with hx' | ⟨v, hv⟩
  · simp [hb x hx] at hx'
  · exact hp v hv

theorem endJob (h : Follows p s t) (hs : s.ReadsOn p) (n : Nat) (e : Ending) : Follows p s (endJob n e t) := by
  obtain ⟨-, eq⟩ | ⟨j, held, r, gone, hj, hr, hgone, eq⟩ := endJob_cases t n e <;> rw [eq]
  · exact h
  · have settled := (h.giveUpWork n).settleHeld j e
    rw [hr] at settled
    have left : Follows p s gone := hgone ▸ settled.posted _ n e
    split
    · rename_i hheld
      rcases hs with hop | ⟨hp, hb⟩
      · exact left.retakeRead fun op hc => (left.current op hc).elim (hop op) id
      · rw [settleHeld_background _ _ _ (h.background hp hb j (job_mem t hj))] at hr
        cases hr
        cases hheld
    · exact left

theorem settleJobs (h : Follows p s t) (hs : s.ReadsOn p) : Follows p s (settleJobs t) :=
  KeptBySettling.settleJobs (P := Follows p s)
    { job := fun n f _ hf hr => hr.modJob n f fun j => by rw [(hf j).2]; exact ⟨rfl, rfl, .inl⟩
      leave := fun n _ hr => hr.leaveArbiter n
      free := fun i _ hr => hr.freeSlot i
      fill := fun _ _ _ hr => hr.fillFor (.inr nofun)
      ended := fun n _ _ hr => hr.endJob hs n _ } h

theorem endJobs (h : Follows p s t) (hs : s.ReadsOn p) (q : Job → Bool) (e : Ending) :
    Follows p s (endJobs q e t) :=
  endJobs_induct t (Follows p s) q e (fun n _ hr => hr.endJob hs n e) h

end Follows

end Sys2Proof.Machine
end

section
/-! SUPPORT. A unit's return to service (R54, R56). -/

namespace Sys2Proof.Machine

variable {s : State}

/-- With the bypass open a change of a drive's line is taken by the unit's logic, and the line is as the drive
has it. -/
theorem lineChange_open (u : UnitNo) (line : UnitEntry → UnitEntry) (joined f : State → State)
    (h : s.bypassOpen = true) :
    lineChange u line joined f s = modUnit u line (endCommand (f (beginCommand [] s))) :=
  congrArg (modUnit u line) (throughRelay_open s [] joined f h)

theorem readsOn_any (s : State) : s.ReadsOn fun _ => True := .inl fun _ _ => trivial

/-- The jobs find where they stand without touching the drives' side of the units. -/
theorem settleJobs_follows (s : State) : Follows (fun _ => True) s (settleJobs s) :=
  Follows.refl.settleJobs (readsOn_any s)

/-- READY and DRIVE FAULT go up to the controller as the drive reports them, whether joined or presented (R18,
R21). -/
theorem presented_ready (s : State) (u : UnitNo) : (s.presented u).ready = (s.unit u).readyLine := by
  unfold State.presented
  split <;> rfl

theorem presented_driveFault (s : State) (u : UnitNo) : (s.presented u).driveFault = (s.unit u).faultLine := by
  unfold State.presented
  split <;> rfl

/-- A unit returned to service has unknown margins, and no more than its jobs' work and its hold can have
changed. -/
theorem returnUnit_unit (u : UnitNo) (s : State) : ∃ m r o h c, (returnUnit u s).unit u = { s.unit u with
    strobe := none, offset := none, motion := m, recovery := r, owner := o, hold := h, counters := c } := by
  obtain ⟨m, r, o, h, c, e⟩ := ((settleJobs_follows (addMarginItem u (modUnit u (fun e => { e with
    strobe := none, offset := none }) s))).unit u).fields
  have hunit : (addMarginItem u (modUnit u (fun e => { e with strobe := none, offset := none }) s)).unit u =
      { s.unit u with strobe := none, offset := none } := by
    rw [addMarginItem_eq]
    exact Table.get_set_same ..
  rw [hunit] at e
  exact ⟨m, r, o, h, c, e⟩

theorem margin_mem_returnUnit (u : UnitNo) (s : State) : .margin u ∈ (returnUnit u s).items :=
  ((settleJobs_follows _).items _ rfl).2 ((mem_addMarginItem ..).2 (.inr rfl))

/-- The unit and its margin item once a line of its drive has changed with its return to service. -/
theorem returned_unit (u : UnitNo) (line before : UnitEntry → UnitEntry) (s t : State)
    (ht : t = modUnit u line (endCommand (returnUnit u (modUnit u before s)))) : .margin u ∈ t.items ∧
      ∃ m r o h c, t.unit u = line { before (s.unit u) with
        strobe := none, offset := none, motion := m, recovery := r, owner := o, hold := h, counters := c } := by
  obtain ⟨m, r, o, h, c, e⟩ := returnUnit_unit u (modUnit u before s)
  rw [modUnit_unit_same] at e
  rw [ht, modUnit_unit_same]
  exact ⟨margin_mem_returnUnit u _, m, r, o, h, c, congrArg line e⟩

theorem exec_returnToService {u : UnitNo} (hopen : s.bypassOpen = true) (hf : (s.unit u).faultLine = true) :
    ∃ t, exec (.returnToService u) s = .next t ∧ .margin u ∈ t.items ∧
      ∃ m r o h c, t.unit u = { s.unit u with
        faultLine := false, strobe := none, offset := none
        motion := m, recovery := r, owner := o, hold := h, counters := c } := by
  have h : faultCleared u (beginCommand [] s) = _ := if_pos hf
  have e := lineChange_open u (fun e => { e with faultLine := false }) id (faultCleared u) hopen
  rw [h] at e
  exact ⟨_, rfl, returned_unit u _ _ _ _ e⟩

theorem exec_readyRise {u : UnitNo} (hopen : s.bypassOpen = true) (hr : (s.unit u).readyLine = false) :
    ∃ t, exec (.readyRise u) s = .next t ∧ .margin u ∈ t.items ∧
      ∃ m r o h c, t.unit u = { s.unit u with
        readyLine := true, ready := true, strobe := none, offset := none
        motion := m, recovery := r, owner := o, hold := h, counters := c } := by
  have h : readyUp u (beginCommand [] s) = _ := if_neg (Bool.eq_false_iff.1 hr)
  have e := lineChange_open u (fun e => { e with readyLine := true }) id (readyUp u) hopen
  rw [h] at e
  exact ⟨_, rfl, returned_unit u _ _ _ _ e⟩

/-- Settles O28: the margins and the margin item are `returnUnit`'s, and the jobs' finding where they stand
touches neither them nor the drive's side of the unit. -/
theorem unitReturnsToService : Obligations.UnitReturnsToService := by
  intro s u i hopen hi
  rcases hi with ⟨rfl, hf⟩ | ⟨rfl, hr⟩
  · obtain ⟨t, hexec, hmargin, m, r, o, h, c, e⟩ := exec_returnToService hopen hf
    refine ⟨t, hexec, ?_⟩
    rw [presented_driveFault, e]
    exact ⟨rfl, rfl, hmargin, rfl, rfl, fun _ => ⟨rfl, rfl⟩, nofun⟩
  · obtain ⟨t, hexec, hmargin, m, r, o, h, c, e⟩ := exec_readyRise hopen hr
    refine ⟨t, hexec, ?_⟩
    rw [presented_ready, e]
    exact ⟨rfl, rfl, hmargin, rfl, rfl, nofun, fun _ => ⟨rfl, rfl, rfl⟩⟩

end Sys2Proof.Machine
end

section
/-! SUPPORT. The pack generations, and what leaves them as they are: everything but a fall of READY and the
power (R55, R140). One lemma to each operation, in the order of the model. -/

namespace Sys2Proof.Machine

/-- The pack generations of the units (R140). -/
def State.generations (s : State) (u : UnitNo) : Word := (s.unit u).generation

variable (s : State)

/-! ### Plain updates -/

/-- What a function leaves beside its answer keeps the generations. -/
theorem generations_of_snd {α : Type} {s t : State} {x : α × State} {a : α} (h : x = (a, t))
    (hx : x.2.generations = s.generations) : t.generations = s.generations := by rw [← hx, h]

theorem Follows.generations {p : UnitNo → Prop} {s t : State} (h : Follows p s t) :
    t.generations = s.generations :=
  funext fun v => (h.unit v).face UnitEntry.generation fun _ _ _ _ _ _ => rfl

theorem foldl_generations {α : Type} (f : State → α → State)
    (hf : ∀ t a, (f t a).generations = t.generations) (l : List α) :
    (l.foldl f s).generations = s.generations :=
  foldl_induct (fun t => t.generations = s.generations) f (fun t a h => (hf t a).trans h) l s rfl

@[simp] theorem modUnit_generations (u : UnitNo) (f : UnitEntry → UnitEntry)
    (hf : ∀ e, (f e).generation = e.generation) : (modUnit u f s).generations = s.generations := by
  funext v
  rw [State.generations, modUnit_unit]
  split
  · exact hf _
  · rfl

/-- The units changed alike, their generations kept. -/
theorem generations_of_map {s t : State} (f : UnitEntry → UnitEntry) (h : t.units = s.units.map f)
    (hf : ∀ e, (f e).generation = e.generation) : t.generations = s.generations := by
  funext v
  rw [State.generations, State.unit, h, Table.get_map]
  exact hf _

@[simp] theorem count_generations (u : UnitNo) (f : Counters → Counters) :
    (count u f s).generations = s.generations := by simp [count]
@[simp] theorem countReads_generations (u : UnitNo) : (countReads u s).generations = s.generations :=
  count_generations ..
@[simp] theorem countFailures_generations (u : UnitNo) : (countFailures u s).generations = s.generations :=
  count_generations ..
@[simp] theorem countBlocked_generations (u : UnitNo) : (countBlocked u s).generations = s.generations :=
  count_generations ..
@[simp] theorem countRedirected_generations (u : UnitNo) : (countRedirected u s).generations = s.generations :=
  count_generations ..
@[simp] theorem countSuperseding_generations (u : UnitNo) (k : Nat) :
    (countSuperseding u k s).generations = s.generations := count_generations ..
@[simp] theorem countFallbacks_generations (u : UnitNo) : (countFallbacks u s).generations = s.generations :=
  count_generations ..
@[simp] theorem emit_generations (e : Emission) : (emit e s).generations = s.generations := rfl
@[simp] theorem modJob_generations (n : Nat) (f : Job → Job) : (modJob n f s).generations = s.generations := rfl
@[simp] theorem modSlot_generations (i : SlotId) (f : Slot → Slot) :
    (modSlot i f s).generations = s.generations := rfl
@[simp] theorem dropSettledMargins_generations : (dropSettledMargins s).generations = s.generations := rfl
@[simp] theorem dropSeekItems_generations (u : UnitNo) : (dropSeekItems u s).generations = s.generations := rfl
@[simp] theorem dropIssuedSeek_generations (u : UnitNo) : (dropIssuedSeek u s).generations = s.generations := rfl
@[simp] theorem clearOperation_generations : (clearOperation s).generations = s.generations := rfl
@[simp] theorem beginCommand_generations (noise : List ReadoutNoise) :
    (beginCommand noise s).generations = s.generations := rfl
@[simp] theorem endCommand_generations : (endCommand s).generations = s.generations := rfl
@[simp] theorem noteDriveFault_generations : (noteDriveFault s).generations = s.generations := rfl
@[simp] theorem removeEntries_generations (p : Entry → Bool) :
    (removeEntries p s).generations = s.generations := rfl
@[simp] theorem removeEntry_generations (k : Addr) : (removeEntry k s).generations = s.generations := rfl
@[simp] theorem selectDrive_generations (u : UnitNo) : (selectDrive u s).generations = s.generations := by
  rw [selectDrive_eq]
  rfl

@[simp] theorem addMarginItem_generations (u : UnitNo) : (addMarginItem u s).generations = s.generations := by
  rw [addMarginItem_eq]
  rfl

@[simp] theorem appendRecord_generations (r : Record) : (appendRecord r s).generations = s.generations :=
  ((Follows.refl (p := fun _ => True)).appendRecord r).generations

@[simp] theorem addJob_generations (j : Job) : (addJob j s).generations = s.generations := by
  obtain ⟨-, e⟩ | ⟨_, -, -, e⟩ := addJob_cases s j <;> rw [e]
  rfl

/-! ### What the ends of jobs and the taking up of reads keep -/

section
variable (i : SlotId)

@[simp] theorem releaseSlot_generations : (releaseSlot i s).generations = s.generations :=
  ((Follows.refl (p := fun _ => True)).releaseSlot i).generations
@[simp] theorem readSlot_generations (start len : Nat) :
    (readSlot i start len s).2.generations = s.generations :=
  ((Follows.refl (p := fun _ => True)).readSlot i start len).generations
theorem readData_generations : (readData i s).2.generations = s.generations := readSlot_generations ..
theorem readWhole_generations : (readWhole i s).2.generations = s.generations := readSlot_generations ..

end

@[simp] theorem releaseSlots_generations (l : List SlotId) :
    (releaseSlots l s).generations = s.generations := by
  rw [releaseSlots_eq]
  rfl
@[simp] theorem restoreReservations_generations : (restoreReservations s).generations = s.generations :=
  ((Follows.refl (p := fun _ => True)).onlyReserves (restoreReservations_onlyReserves s)).generations
@[simp] theorem endHold_generations (u : UnitNo) : (endHold u s).generations = s.generations :=
  ((Follows.refl (p := fun _ => True)).endHold u).generations
@[simp] theorem releaseForeground_generations : (releaseForeground s).generations = s.generations :=
  (Follows.refl (p := fun _ => True)).releaseForeground.generations
@[simp] theorem answerCurrent_generations (a : Answer) : (answerCurrent a s).generations = s.generations :=
  ((Follows.refl (p := fun _ => True)).answerCurrent a).generations
@[simp] theorem answerData_generations (data : List Word) : (answerData data s).generations = s.generations :=
  ((Follows.refl (p := fun _ => True)).answerData data).generations
@[simp] theorem forwardCapture_generations (i : Option SlotId) :
    (forwardCapture i s).generations = s.generations :=
  ((Follows.refl (p := fun _ => True)).forwardCapture i).generations
@[simp] theorem deliverFirstClean_generations : (deliverFirstClean s).generations = s.generations :=
  (Follows.refl (p := fun _ => True)).deliverFirstClean.generations
@[simp] theorem requestDrive_generations (op : ControllerOp) :
    (requestDrive op s).generations = s.generations :=
  ((Follows.refl (p := fun _ => True)).requestDrive trivial).generations
@[simp] theorem takeRead_generations (u : UnitNo) (head sector : Nat) :
    (takeRead u head sector s).generations = s.generations :=
  ((Follows.refl (p := fun _ => True)).takeRead trivial head sector).generations
theorem offer_generations (k : Addr) (o : StoreOrigin) (data : List Word) :
    (offer k o data s).2.generations = s.generations :=
  ((Follows.refl (p := fun _ => True)).offer k o data).generations
@[simp] theorem endJob_generations (n : Nat) (e : Ending) : (endJob n e s).generations = s.generations :=
  ((Follows.refl (p := fun _ => True)).endJob (readsOn_any s) n e).generations
@[simp] theorem endJobs_generations (p : Job → Bool) (e : Ending) :
    (endJobs p e s).generations = s.generations :=
  ((Follows.refl (p := fun _ => True)).endJobs (readsOn_any s) p e).generations
@[simp] theorem settleJobs_generations : (settleJobs s).generations = s.generations :=
  (settleJobs_follows s).generations
@[simp] theorem giveReposition_generations (n : Nat) : (giveReposition n s).generations = s.generations := by
  obtain ⟨-, e⟩ | ⟨j, f, -, -, -, e | e⟩ := giveReposition_cases n s <;> rw [e]
  · rfl
  · exact generations_of_map _ rfl fun _ => rfl

/-! ### Slots closed and handed over (Chapter 4) -/

@[simp] theorem closeSlot_generations (i : SlotId) (a : Addr) (d : Delivery) (f : Finding) :
    (closeSlot i a d f s).generations = s.generations := by
  unfold closeSlot
  dsimp only
  split <;> split <;> simp

@[simp] theorem handSlot_generations (i : SlotId) (n : Nat) : (handSlot i n s).generations = s.generations := by
  simp [handSlot]

@[simp] theorem releaseOption_generations (slot : Option SlotId) :
    (releaseOption slot s).generations = s.generations := by
  cases slot <;> simp [releaseOption]

/-! ### Abandonment (R19, R42) -/

@[simp] theorem sendWords_generations (u : UnitNo) (words : Option (List Word)) :
    (sendWords u words s).generations = s.generations := by
  cases words <;> simp [sendWords]

@[simp] theorem abandonOperation_generations : (abandonOperation s).generations = s.generations := by
  unfold abandonOperation giveUpRelaySeek
  split
  · rfl
  · dsimp only
    split
    · simp
      show (releaseForeground (endHold _ s)).generations = _
      simp
    · split <;> simp

@[simp] theorem abandonCurrent_generations : (abandonCurrent s).generations = s.generations := by
  unfold abandonCurrent
  split <;> simp

@[simp] theorem settleIfRetired_generations (f : State → State)
    (hf : ∀ t, (f t).generations = t.generations) : (settleIfRetired f s).generations = s.generations := by
  obtain ⟨-, e⟩ | ⟨-, e⟩ := settleIfRetired_cases s f <;> simp [e, hf]

/-! ### Jobs made (R74 to R76, R92) -/

@[simp] theorem enterJob_generations (j : Job) : (enterJob j s).generations = s.generations :=
  addJob_generations s { j with number := s.drawNumber }

@[simp] theorem createRequestJob_generations (a : Addr) (granted : Nat) :
    (createRequestJob a granted s).generations = s.generations := enterJob_generations ..

@[simp] theorem createFailureJob_generations (a : Addr) (o : CheckOutcome) (hold : Bool)
    (slot : Option SlotId) (granted : Nat) :
    (createFailureJob a o hold slot granted s).generations = s.generations := by
  unfold createFailureJob
  dsimp only
  split <;> simp

@[simp] theorem turnHold_generations (k : HoldKind) (u : UnitNo) :
    (turnHold k u s).generations = s.generations := by simp [turnHold]

@[simp] theorem clearOffTrack_generations (u : UnitNo) : (clearOffTrack u s).generations = s.generations := by
  simp [clearOffTrack]

@[simp] theorem createTrackJob_generations (u : UnitNo) (cyl head : Nat) (o : Origin) (revs : Nat) :
    (createTrackJob u cyl head o revs s).2.generations = s.generations := by
  unfold createTrackJob
  dsimp only
  split
  · rfl
  · split
    · rfl
    · dsimp only
      split <;> simp

theorem tryEscalation_generations (u : UnitNo) : (tryEscalation u s).generations = s.generations := by
  unfold tryEscalation
  dsimp only
  split
  · rfl
  · rename_i cyl head _
    split
    · split
      · simp
      · split <;> rename_i h <;> simp [generations_of_snd h (createTrackJob_generations ..)]
    · rfl

@[simp] theorem feedOffTrack_generations (a : Addr) (o : CheckOutcome) :
    (feedOffTrack a o s).generations = s.generations := by
  unfold feedOffTrack
  split
  · rfl
  · refine (tryEscalation_generations _ _).trans (modUnit_generations _ _ _ fun e => ?_)
    split <;> rfl
  · simp

/-! ### Captures offered and handed over (R74, R82 to R85) -/

@[simp] theorem markHeader_generations (n : Nat) (o : CheckOutcome) :
    (markHeader n o s).generations = s.generations := by
  unfold markHeader
  split <;> rfl

@[simp] theorem joinList_generations (n : Nat) (i : SlotId) (credit : Nat) :
    (joinList n i credit s).generations = s.generations := rfl

@[simp] theorem endClean_generations (n : Nat) (i : SlotId) :
    (endClean n i s).2.generations = s.generations := by
  unfold endClean
  dsimp only
  split <;> rename_i h <;> simp [generations_of_snd h (readData_generations ..)]

@[simp] theorem handOver_generations (n : Nat) (i : SlotId) (pin : Bool) :
    (handOver n i pin s).generations = s.generations := by simp [handOver]

@[simp] theorem makeRoom_generations (n : Nat) (clean : Bool) :
    (makeRoom n clean s).generations = s.generations := by
  unfold makeRoom
  split
  · rfl
  · split
    · rfl
    · split <;> simp [releaseCapture]

@[simp] theorem offerCapture_generations (n : Nat) (i : SlotId) (pin : Bool) :
    (offerCapture n i pin s).generations = s.generations := by
  unfold offerCapture
  dsimp only
  split
  · simp
  · split
    · simp
    · split <;> simp

@[simp] theorem readFailure_generations (a : Addr) (o : CheckOutcome) (hold : Bool) (slot : Option SlotId) :
    (readFailure a o hold slot s).2.generations = s.generations := by
  unfold readFailure setForeground
  dsimp only
  split
  · cases slot <;> cases hold <;> simp
  · split
    · cases hold <;> simp
    · split
      · simp
      · split <;> simp

@[simp] theorem enterHeld_generations (u : UnitNo) : (enterHeld u s).generations = s.generations := by
  unfold enterHeld
  dsimp only
  split
  · rfl
  · split <;> simp <;> rfl

@[simp] theorem relayFailure_generations (a : Addr) (o : CheckOutcome) (hold : Bool) (slot : Option SlotId) :
    (relayFailure a o hold slot s).generations = s.generations := by
  unfold relayFailure
  split <;> rename_i h
  · cases hold <;> simp [generations_of_snd h (readFailure_generations ..)]
  · cases hold <;> simp [generations_of_snd h (readFailure_generations ..)]

@[simp] theorem restartJob_generations (n : Nat) : (restartJob n s).generations = s.generations :=
  generations_of_map _ rfl fun _ => rfl

/-! ### Grants (Chapter 3) -/

@[simp] theorem headsMove_generations (u : UnitNo) : (headsMove u s).generations = s.generations := by
  simp [headsMove]

@[simp] theorem startSeek_generations (i : Issuer) (u : UnitNo) (cmd : SeekCmd) (forAction retry : Bool) :
    (startSeek i u cmd forAction retry s).generations = s.generations := by simp [startSeek]

@[simp] theorem sendStrobe_generations (u : UnitNo) (x : Strobe) :
    (sendStrobe u x s).generations = s.generations := by simp [sendStrobe]

@[simp] theorem sendOffset_generations (u : UnitNo) (x : HeadOffset) :
    (sendOffset u x s).generations = s.generations := by simp [sendOffset]

@[simp] theorem takeFromOwner_generations (u : UnitNo) : (takeFromOwner u s).generations = s.generations := by
  unfold takeFromOwner
  split <;> simp

@[simp] theorem tellMoved_generations (u : UnitNo) : (tellMoved u s).generations = s.generations :=
  foldl_generations s _ (fun _ _ => giveReposition_generations ..) _

@[simp] theorem relaySeek_generations (i : Issuer) (u : UnitNo) (cmd : SeekCmd) (retry : Bool) :
    (relaySeek i u cmd retry s).generations = s.generations := by simp [relaySeek]

theorem relayMargin_generations {u : UnitNo} {t : State} (h : relayMargin u s = some t) :
    t.generations = s.generations := by
  unfold relayMargin at h
  split at h
  · cases h
    simp
  · split at h
    · cases h
      simp
    · cases h

@[simp] theorem supersedeTrackSector_generations (n k : Nat) :
    (supersedeTrackSector n k s).generations = s.generations := by
  unfold supersedeTrackSector
  split <;> simp

@[simp] theorem endIfSettled_generations (n : Nat) : (endIfSettled n s).generations = s.generations := by
  unfold endIfSettled
  split
  · rfl
  · split <;> simp

@[simp] theorem supersedeSector_generations (a : Addr) : (supersedeSector a s).generations = s.generations := by
  unfold supersedeSector
  dsimp only
  split <;> split <;> split <;> simp

@[simp] theorem supersedeTrack_generations (u : UnitNo) (cyl head : Nat) :
    (supersedeTrack u cyl head s).generations = s.generations := by
  unfold supersedeTrack
  dsimp only
  split
  · rw [endJob_generations, foldl_generations _ _ fun _ _ => supersedeTrackSector_generations ..]
    simp
  · simp

@[simp] theorem putOnCable_generations (op : ControllerOp) (k : ReadKind) (c : CableOp) :
    (putOnCable op k c s).generations = s.generations := rfl

@[simp] theorem issueRead_generations (op : ControllerOp) (k : ReadKind) :
    (issueRead op k s).generations = s.generations := by
  unfold issueRead
  dsimp only
  split <;> split <;> simp

@[simp] theorem issueOperation_generations (op : ControllerOp) :
    (issueOperation op s).generations = s.generations := by
  unfold issueOperation
  dsimp only
  split <;> simp

@[simp] theorem operationStep_generations (op : ControllerOp) :
    (operationStep op s).generations = s.generations := by
  unfold operationStep
  split
  · simp
  · split
    · simp
    · split
      · exact relayMargin_generations s ‹_›
      · simp

@[simp] theorem grantItem_generations (i : Item) : (grantItem i s).generations = s.generations := by
  unfold grantItem seekStep
  split
  · split
    · exact relayMargin_generations s ‹_›
    · rfl
  · dsimp only
    split <;> simp <;> rfl
  · split <;> simp

@[simp] theorem becomeOwner_generations (n : Nat) (u : UnitNo) :
    (becomeOwner n u s).generations = s.generations := by
  obtain ⟨-, e⟩ | ⟨m, -, -, e⟩ := becomeOwner_cases n u s <;> simp [e]

@[simp] theorem grantCommand_generations (j : Job) (c : Command) :
    (grantCommand j c s).generations = s.generations := by
  cases c <;> simp [grantCommand]

@[simp] theorem grantRead_generations (j : Job) : (grantRead j s).generations = s.generations := by
  have owned : (s.readOwned j).generations = s.generations := by
    unfold State.readOwned
    split
    · split <;> simp
    · rfl
  rw [grantRead_eq]
  exact owned

@[simp] theorem grantJob_generations (j : Job) : (grantJob j s).generations = s.generations := by
  obtain ⟨-, e⟩ | ⟨-, e | ⟨c, e⟩⟩ := grantJob_cases j s <;> simp [e]

@[simp] theorem decideGrant_generations : (decideGrant s).generations = s.generations := by
  unfold decideGrant
  split
  · rfl
  · split
    · simp
    · split <;> simp

/-! ### Requests (Chapter 11) -/

section
variable (a b c d e f g h : Word)

theorem askGeometry_generations (x : Word) :
    (askGeometry a b c d e f g h x s).2.generations = s.generations := by
  unfold askGeometry refuse done
  split
  · split <;> simp
  · rfl

theorem askPlan_generations (l : List StepWords) : (askPlan a b l s).2.generations = s.generations := by
  unfold askPlan refuse done
  split
  · split <;> rfl
  · rfl

theorem askPolicy_generations : (askPolicy a b s).2.generations = s.generations := by
  unfold askPolicy refuse done
  split
  · split <;> simp
  · rfl

theorem askSector_generations : (askSector a b c d s).2.generations = s.generations := by
  unfold askSector refuse done
  split
  · rfl
  · split
    · rfl
    · split
      · simp
      · split
        · rfl
        · split <;> simp

theorem askTrack_generations : (askTrack a b c d s).2.generations = s.generations := by
  unfold askTrack refuse done
  split
  · rfl
  · dsimp only
    split
    · rfl
    · split
      · rfl
      · split <;> rename_i h
        · rfl
        · simp [generations_of_snd h (createTrackJob_generations ..)]

theorem askCancel_generations : (askCancel a s).2.generations = s.generations := by
  unfold askCancel refuse done
  split
  · rfl
  · split <;> simp

theorem askDirectory_generations : (askDirectory a s).2.generations = s.generations := by
  unfold askDirectory refuse done
  split <;> rfl

theorem askPin_generations (pinned : Bool) : (askPin pinned a b c d s).2.generations = s.generations := by
  unfold askPin refuse done
  split
  · rfl
  · split <;> rfl

theorem askDrop_generations : (askDrop a b c d s).2.generations = s.generations := by
  unfold askDrop refuse done
  split
  · rfl
  · split
    · rfl
    · split <;> rfl

theorem askAdopt_generations : (askAdopt a s).2.generations = s.generations := by
  unfold askAdopt refuse done
  split <;> rfl

@[simp] theorem clearJobs_generations : (clearJobs s).generations = s.generations := by
  refine Eq.trans ?_ (endJobs_generations s (fun _ => true) .cancelled)
  exact generations_of_map _ rfl fun _ => rfl

@[simp] theorem clearCounters_generations : (clearCounters s).generations = s.generations :=
  generations_of_map _ rfl fun _ => rfl

theorem askClear_generations : (askClear a s).2.generations = s.generations := by
  unfold askClear refuse done clearStore clearRecords
  dsimp only
  split
  · simp
  · rfl
  · rfl
  · simp
  · simp
    exact clearJobs_generations s
  · rfl

end

@[simp] theorem carryOut_generations (code : Word) (args : List Word) :
    (carryOut code args s).2.generations = s.generations := by
  unfold carryOut
  dsimp only
  split
  · rfl
  · exact askGeometry_generations ..
  · exact askPlan_generations ..
  · exact askPolicy_generations ..
  · rfl
  · exact askSector_generations ..
  · exact askTrack_generations ..
  · exact askCancel_generations ..
  · rfl
  · exact askDirectory_generations ..
  · exact askPin_generations ..
  · exact askPin_generations ..
  · exact askDrop_generations ..
  · exact askAdopt_generations ..
  · exact askClear_generations ..
  · rfl

@[simp] theorem takeRequest_generations (u : UnitNo) (data : List Word) (check : Word) :
    (takeRequest u data check s).generations = s.generations := by
  have judged : (judgeRequest data check s).2.generations = s.generations := by
    unfold judgeRequest
    split
    · rfl
    · split
      · rfl
      · simp
  exact judged

/-- A request command that keeps the generations keeps them as a whole write. -/
theorem requestWrite_generations (code tag : Word) (f : State → Reply × State)
    (hf : ∀ t, (f t).2.generations = t.generations) :
    (requestWrite code tag f s).generations = s.generations :=
  (hf (abandonCurrent s)).trans (abandonCurrent_generations s)

/-! ### The controller's operations (Chapter 2) -/

@[simp] theorem placeSeekItem_generations (u : UnitNo) (cmd : SeekCmd) :
    (placeSeekItem u cmd s).generations = s.generations := by
  unfold placeSeekItem
  split <;> rfl

@[simp] theorem seekMaintenance_generations (u : UnitNo) : (seekMaintenance u s).generations = s.generations := by
  simp [seekMaintenance, giveUpControllerSeek]

@[simp] theorem seekDrive_generations (u : UnitNo) (cmd : SeekCmd) :
    (seekDrive u cmd s).generations = s.generations := by
  simp [seekDrive, giveUpControllerSeek]

@[simp] theorem blockWrite_generations (u : UnitNo) : (blockWrite u s).generations = s.generations := by
  simp [blockWrite]

@[simp] theorem receiveWrite_generations (a : Addr) (data : List Word) :
    (receiveWrite a data s).generations = s.generations := rfl

@[simp] theorem redirectWrite_generations (a : Addr) (data : List Word) (check : Word) :
    (redirectWrite a data check s).generations = s.generations := by
  unfold redirectWrite
  split
  · split <;> rename_i h <;> simp [generations_of_snd h (offer_generations ..)]
  · simp

@[simp] theorem takeWrite_generations (u : UnitNo) (head sector : Nat) (data : List Word) (check : Option Word) :
    (takeWrite u head sector data check s).generations = s.generations := by
  unfold takeWrite writeMaintenance writeByPolicy
  split
  · split
    · simp
    · split <;> simp
  · split
    · simp
    · split
      · simp
      · split
        · simp
        · simp
        · split
          · simp
          · split <;> simp

@[simp] theorem takeFormat_generations (u : UnitNo) (head : Nat) (headers : List Word) :
    (takeFormat u head headers s).generations = s.generations := by
  unfold takeFormat
  split
  · simp
  · split
    · simp
    · split
      · simp
      · split <;> simp

@[simp] theorem clearCable_generations : (clearCable s).generations = s.generations := by
  refine Eq.trans ?_ (releaseForeground_generations s)
  exact generations_of_map _ rfl fun _ => rfl

/-! ### The ends of streams, revolutions and merges (Chapters 5 to 8) -/

theorem readCaptures_generations (l : List SlotId) : (readCaptures l s).2.generations = s.generations := by
  induction l generalizing s with
  | nil => rfl
  | cons i l ih => exact (ih _).trans (readSlot_generations ..)

@[simp] theorem askMerge_generations (n sector : Nat) (list : List SlotId) :
    (askMerge n sector list s).generations = s.generations := readCaptures_generations s list

@[simp] theorem mergeList_generations (n : Nat) (last : Bool) : (mergeList n last s).generations = s.generations := by
  unfold mergeList
  split <;> simp

@[simp] theorem requeue_generations (n : Nat) (f : Job → Job) : (requeue n f s).generations = s.generations := rfl

@[simp] theorem advancePlan_generations (n : Nat) : (advancePlan n s).generations = s.generations := by
  unfold advancePlan
  split
  · rfl
  · split
    · simp
    · split
      · simp
      · split
        · simp
        · split <;> simp

@[simp] theorem afterAttempt_generations (n : Nat) : (afterAttempt n s).generations = s.generations := by
  unfold afterAttempt
  split
  · rfl
  · split <;> simp

@[simp] theorem clearOwner_generations (n : Nat) (u : UnitNo) :
    (clearOwner n u s).generations = s.generations := by simp [clearOwner]

@[simp] theorem closeOption_generations (slot : Option SlotId) (a : Addr) (d : Delivery) (f : Finding) :
    (closeOption slot a d f s).generations = s.generations := by
  cases slot <;> simp [closeOption]

@[simp] theorem attemptOutcome_generations (n : Nat) (f : Finding) (slot : Option SlotId) :
    (attemptOutcome n f slot s).generations = s.generations := by
  unfold attemptOutcome
  split
  · rfl
  · dsimp only
    split
    · simp
    · split
      · split <;> rename_i h <;> simp [generations_of_snd h (endClean_generations ..)]
      · simp

theorem freed_generations (g : Option Grant) : State.generations { s with grant := g } = s.generations := rfl

@[simp] theorem jobStream_generations (n : Nat) (g : Grant) (sector head : Nat) (d : Delivery) :
    (jobStream n g sector head d s).generations = s.generations := by
  unfold jobStream
  dsimp only
  split
  · rfl
  · split <;> simp [freed_generations]

@[simp] theorem modRow_generations (n k : Nat) (f : SectorRow → SectorRow) :
    (modRow n k f s).generations = s.generations := rfl

@[simp] theorem tellFirstClean_generations (n k : Nat) : (tellFirstClean n k s).generations = s.generations := by
  unfold tellFirstClean
  split
  · split <;> simp
  · rfl

@[simp] theorem fileCapture_generations (n k : Nat) (i : SlotId) (clean : Bool) :
    (fileCapture n k i clean s).generations = s.generations := by
  unfold fileCapture setCredit
  split
  · rfl
  · split
    · simp
    · dsimp only
      split <;> simp

@[simp] theorem trackStream_generations (n : Nat) (g : Grant) (head : Nat) (d : Delivery) :
    (trackStream n g head d s).generations = s.generations := by
  unfold trackStream
  split
  · dsimp only
    split
    · simp [freed_generations]
    · split <;> simp [freed_generations]
  · rfl

theorem firstReadable_generations (l : List SlotId) : (firstReadable l s).2.generations = s.generations := by
  induction l generalizing s with
  | nil => rfl
  | cons i l ih =>
    unfold firstReadable
    split <;> rename_i h
    · exact generations_of_snd h (readData_generations ..)
    · exact (ih _).trans (generations_of_snd h (readData_generations ..))

@[simp] theorem settleClean_generations (n k : Nat) : (settleClean n k s).generations = s.generations := by
  unfold settleClean
  split
  · rfl
  · dsimp only
    split
    · rfl
    · split <;> rename_i h <;> simp [generations_of_snd h (firstReadable_generations ..)]

@[simp] theorem settleMerge_generations (n k : Nat) : (settleMerge n k s).generations = s.generations := by
  unfold settleMerge
  split
  · rfl
  · dsimp only
    split
    · rfl
    · split <;> simp

@[simp] theorem endIfMerged_generations (n : Nat) : (endIfMerged n s).generations = s.generations := by
  unfold endIfMerged
  split
  · rfl
  · split <;> simp

@[simp] theorem finalStage_generations (n : Nat) : (finalStage n s).generations = s.generations := by
  unfold finalStage
  split
  · rfl
  · dsimp only
    rw [endIfMerged_generations, foldl_generations _ _ fun _ _ => settleMerge_generations ..,
      foldl_generations _ _ fun _ _ => settleClean_generations ..]

@[simp] theorem closeReadTrack_generations (n : Nat) (g : Grant) :
    (closeReadTrack n g s).generations = s.generations := by
  unfold closeReadTrack
  dsimp only
  split
  · rfl
  · split
    · simp [freed_generations]
    · split <;> simp [freed_generations]

@[simp] theorem writeVerdict_generations (n k : Nat) : (writeVerdict n k s).generations = s.generations := by
  unfold writeVerdict sectorVerdict trackVerdict
  split
  · rfl
  · split
    · rfl
    · dsimp only
      split
      · split
        · simp
        · split <;> simp
      · simp

@[simp] theorem checkedReport_generations (a : Addr) (f : Finding) (i : SlotId) :
    (checkedReport a f i s).generations = s.generations := by
  unfold checkedReport
  split
  · split <;> rename_i h <;> simp [generations_of_snd h (readData_generations ..)]
  · simp

@[simp] theorem ownedReport_generations (a : Addr) (f : Finding) (slot : Option SlotId) (abandoned : Bool) :
    (ownedReport a f slot abandoned s).generations = s.generations := by
  unfold ownedReport
  split
  · simp
  · split
    · simp
    · dsimp only
      split
      · simp
      · split <;> simp

@[simp] theorem passReport_generations (a : Addr) (f : Finding) (slot : Option SlotId) :
    (passReport a f slot s).generations = s.generations := by
  unfold passReport
  split <;> simp

@[simp] theorem relayReport_generations (k : ReadKind) (waits abandoned : Bool) (a : Addr) (f : Finding)
    (slot : Option SlotId) : (relayReport k waits abandoned a f slot s).generations = s.generations := by
  unfold relayReport
  split
  · split <;> simp
  · simp
  · rfl
  · rfl
  · rfl

@[simp] theorem relayStream_generations (g : Grant) (k : ReadKind) (head sector : Nat) (d : Delivery) :
    (relayStream g k head sector d s).generations = s.generations := by
  unfold relayStream
  dsimp only
  split <;> split <;> simp [freed_generations]

@[simp] theorem endStream_generations (d : Delivery) : (endStream d s).generations = s.generations := by
  unfold endStream
  split
  · rfl
  · split <;> simp

/-! ### What the drives report (Chapters 1 to 3 and 8) -/

@[simp] theorem raiseSeekEnd_generations (u : UnitNo) (target : Nat) :
    (raiseSeekEnd u target s).generations = s.generations := by
  unfold raiseSeekEnd
  split <;> simp

@[simp] theorem deliverSeekEnd_generations (u : UnitNo) (m : Motion) :
    (deliverSeekEnd u m s).generations = s.generations := by
  unfold deliverSeekEnd jobArrived
  split
  · split
    · rfl
    · split <;> simp
  · rfl
  · split <;> simp

@[simp] theorem takeSeekEnd_generations (u : UnitNo) : (takeSeekEnd u s).generations = s.generations := by
  unfold takeSeekEnd arrive
  split
  · rfl
  · dsimp only
    split
    · simp
    · split <;> simp

@[simp] theorem failCurrent_generations (st : Status) : (failCurrent st s).generations = s.generations := by
  unfold failCurrent
  split
  · rfl
  · split <;> simp

@[simp] theorem exhaustSeek_generations (u : UnitNo) (i : Issuer) :
    (exhaustSeek u i s).generations = s.generations := by
  cases i <;> simp [exhaustSeek, showSeekFault]

@[simp] theorem takeSeekFault_generations (u : UnitNo) : (takeSeekFault u s).generations = s.generations := by
  unfold takeSeekFault
  split
  · rfl
  · dsimp only
    split
    · simp
    · split <;> simp

@[simp] theorem emitBroken_generations (u : UnitNo) (arrived : List Word) :
    (emitBroken u arrived s).generations = s.generations := by
  unfold emitBroken
  split <;> rfl

@[simp] theorem cutRelayRead_generations (g : Grant) (k : ReadKind) (arrived : List Word) :
    (cutRelayRead g k arrived s).generations = s.generations := by
  unfold cutRelayRead cutSlot
  dsimp only
  split <;> split <;> simp

@[simp] theorem cutJobRead_generations (g : Grant) (arrived : List Word) :
    (cutJobRead g arrived s).generations = s.generations := by
  unfold cutJobRead
  split <;> rfl

@[simp] theorem cutGrant_generations (u : UnitNo) (arrived : List Word) :
    (cutGrant u arrived s).generations = s.generations := by
  unfold cutGrant
  split
  · rfl
  · split
    · rfl
    · split <;> simp [freed_generations]

@[simp] theorem failUnit_generations (u : UnitNo) (st : Status) (all : Bool) (arrived : List Word) :
    (failUnit u st all arrived s).generations = s.generations := by
  unfold failUnit
  dsimp only
  split
  · split <;> simp
  · simp

@[simp] theorem faultOnset_generations (u : UnitNo) (arrived : List Word) :
    (faultOnset u arrived s).generations = s.generations := by
  unfold faultOnset
  split <;> simp

@[simp] theorem returnUnit_generations (u : UnitNo) : (returnUnit u s).generations = s.generations := by
  simp [returnUnit]

@[simp] theorem faultCleared_generations (u : UnitNo) : (faultCleared u s).generations = s.generations := by
  unfold faultCleared
  split <;> simp

@[simp] theorem readyUp_generations (u : UnitNo) : (readyUp u s).generations = s.generations := by
  unfold readyUp
  split <;> simp

@[simp] theorem takeWriteAnswer_generations (a : DriveAnswer) :
    (takeWriteAnswer a s).generations = s.generations := by
  unfold takeWriteAnswer
  split
  · rfl
  · split
    · rfl
    · rfl
    · dsimp only
      split
      · rfl
      · split <;> simp [freed_generations]
    · dsimp only
      split
      · rfl
      · split <;> simp [freed_generations]

@[simp] theorem takeRevolutionEnd_generations : (takeRevolutionEnd s).generations = s.generations := by
  unfold takeRevolutionEnd
  split
  · rfl
  · split <;> simp

/-! ### Holds (Chapter 2) -/

@[simp] theorem expireHold_generations (k : HoldKind) (u : UnitNo) :
    (expireHold k u s).generations = s.generations := by
  unfold expireHold expireWait expireFailure forwardMark countRevolution
  split
  · split
    · simp
    · split <;> rename_i h <;> simp [generations_of_snd h (readWhole_generations ..)]
  · dsimp only
    split <;> simp

@[simp] theorem takeIndex_generations (u : UnitNo) : (takeIndex u s).generations = s.generations := by
  unfold takeIndex withholdMark
  split
  · rfl
  · split <;> simp

@[simp] theorem takeExpiry_generations (k : HoldKind) (u : UnitNo) :
    (takeExpiry k u s).generations = s.generations := by
  unfold takeExpiry
  split
  · split <;> simp
  · rfl

/-! ### The joined lines and the bypass (R18) -/

section
variable {f g : State → State}

theorem throughRelay_generations (noise : List ReadoutNoise) (hf : ∀ t, (f t).generations = t.generations)
    (hg : ∀ t, (g t).generations = t.generations) :
    (throughRelay noise f g s).generations = s.generations := by
  cases h : s.bypassOpen
  · rw [throughRelay_closed s noise f g h, endCommand_generations, hf, beginCommand_generations]
  · rw [throughRelay_open s noise f g h, endCommand_generations, hg, beginCommand_generations]

/-- What a command of the lines keeps, joined and open, its outcome keeps. -/
theorem generations_of_throughRelay {s t : State} {noise : List ReadoutNoise}
    (h : (.next (throughRelay noise f g s) : Host.Outcome State Fault Refusal) = .next t)
    (hf : ∀ t, (f t).generations = t.generations) (hg : ∀ t, (g t).generations = t.generations) :
    t.generations = s.generations := by
  cases h
  exact throughRelay_generations s noise hf hg

theorem generations_of_whenOpen {s t : State} {noise : List ReadoutNoise}
    (h : (.next (whenOpen noise g s) : Host.Outcome State Fault Refusal) = .next t)
    (hg : ∀ t, (g t).generations = t.generations) : t.generations = s.generations :=
  generations_of_throughRelay h (fun _ => rfl) hg

theorem generations_of_lineChange {s t : State} {u : UnitNo} {line : UnitEntry → UnitEntry}
    (h : (.next (lineChange u line f g s) : Host.Outcome State Fault Refusal) = .next t)
    (hl : ∀ e, (line e).generation = e.generation) (hf : ∀ t, (f t).generations = t.generations)
    (hg : ∀ t, (g t).generations = t.generations) : t.generations = s.generations := by
  cases h
  rw [lineChange, modUnit_generations _ _ _ hl, throughRelay_generations s [] hf hg]

end

theorem toJoined_generations (f : UnitNo → State → State) (hf : ∀ u t, (f u t).generations = t.generations) :
    (toJoined f s).generations = s.generations := by
  obtain ⟨-, e⟩ | ⟨u, -, e⟩ := toJoined_cases s f <;> simp [e, hf]

theorem joinedSeek_generations (cmd : SeekCmd) : (joinedSeek cmd s).generations = s.generations :=
  toJoined_generations s _ fun _ _ => by simp

theorem joinedRead_generations (head sector : Nat) : (joinedRead head sector s).generations = s.generations :=
  toJoined_generations s _ fun _ _ => rfl

theorem joinedWrite_generations (op : CableOp) (words : List Word) :
    (joinedWrite op words s).generations = s.generations := toJoined_generations s _ fun _ _ => rfl

theorem joined_generations (x : Option (UnitNo × CableOp)) :
    State.generations { s with joinedOp := x } = s.generations := rfl

theorem joinedStream_generations (d : Delivery) : (joinedStream d s).generations = s.generations := by
  unfold joinedStream
  split <;> rfl

theorem joinedAnswer_generations (a : DriveAnswer) : (joinedAnswer a s).generations = s.generations := by
  unfold joinedAnswer
  split <;> rfl

theorem joinedCut_generations (u : UnitNo) (arrived : List Word) :
    (joinedCut u arrived s).generations = s.generations := by
  unfold joinedCut
  split
  · rfl
  · split
    · rfl
    · split
      · simp [joined_generations]
      · rfl

theorem openBypass_generations : (openBypass s).generations = s.generations := by
  rw [openBypass, foldl_generations _ _ fun _ _ => addMarginItem_generations ..]
  exact generations_of_map _ rfl fun _ => rfl

/-! ### One step (R55, R140) -/

section
variable {s} {t : State}

theorem execBypassOpen_generations (h : execBypassOpen s = .next t) : t.generations = s.generations := by
  cases h
  split
  · exact openBypass_generations _
  · rfl

theorem execUnitSelect_generations {u : UnitNo} (h : execUnitSelect u s = .next t) :
    t.generations = s.generations :=
  generations_of_throughRelay h (fun _ => rfl) fun t => abandonCurrent_generations t

theorem execSeek_generations {cyl : Nat} (h : execSeek cyl s = .next t) : t.generations = s.generations :=
  generations_of_throughRelay h (fun t => joinedSeek_generations t _) fun t => by
    dsimp only
    split <;> simp

theorem execReturnToZero_generations (h : execReturnToZero s = .next t) : t.generations = s.generations :=
  generations_of_throughRelay h (fun t => joinedSeek_generations t _) fun t => by simp

theorem execReadSector_generations {head sector : Nat} {noise : List ReadoutNoise}
    (h : execReadSector head sector noise s = .next t) : t.generations = s.generations :=
  generations_of_throughRelay h (fun t => joinedRead_generations t _ _) fun t =>
    (settleIfRetired_generations _ _ fun _ => takeRead_generations ..).trans (abandonCurrent_generations t)

theorem execWriteSector_generations {head sector : Nat} {data : List Word} {check : Option Word}
    (h : execWriteSector head sector data check s = .next t) : t.generations = s.generations :=
  generations_of_throughRelay h (fun t => joinedWrite_generations t _ _) fun t => by simp

theorem execFormatTrack_generations {head : Nat} {headers : List Word}
    (h : execFormatTrack head headers s = .next t) : t.generations = s.generations :=
  generations_of_throughRelay h (fun t => joinedWrite_generations t _ _) fun t => by simp

theorem execCableInitialize_generations (h : execCableInitialize s = .next t) :
    t.generations = s.generations :=
  generations_of_throughRelay h (fun _ => rfl) fun t => by simp

theorem execSeekEnd_generations {u : UnitNo} {noise : List ReadoutNoise}
    (h : execSeekEnd u noise s = .next t) : t.generations = s.generations :=
  (generations_of_throughRelay h (fun _ => rfl) fun t => takeSeekEnd_generations t u).trans
    (by simp [reportArrival])

theorem execSeekFault_generations {u : UnitNo} {noise : List ReadoutNoise}
    (h : execSeekFault u noise s = .next t) : t.generations = s.generations :=
  (generations_of_throughRelay h (fun _ => rfl) fun t => takeSeekFault_generations t u).trans
    (by simp [reportSeekFault])

theorem execRequestRefused_generations {data : List Word} {check : Word}
    (h : execRequestRefused data check s = .next t) : t.generations = s.generations :=
  generations_of_whenOpen h fun t => by simp

/-- A fall of READY advances no generation but that of its unit. -/
theorem readyDown_generation_ne {u v : UnitNo} (arrived : List Word) (h : v ≠ u) :
    (readyDown u arrived s).generations v = s.generations v := by
  unfold readyDown
  split
  · rfl
  · rw [settleJobs_generations, failUnit_generations, State.generations, modUnit_unit_ne _ _ h]
    rfl

theorem execReadyFall_generation_ne {u v : UnitNo} {arrived : List Word} (hv : v ≠ u)
    (h : execReadyFall u arrived s = .next t) : t.generations v = s.generations v := by
  cases h
  rw [lineChange, modUnit_generations _ _ _ (by intro; rfl)]
  cases hopen : s.bypassOpen
  · rw [throughRelay_closed s _ _ _ hopen, endCommand_generations, joinedCut_generations,
      beginCommand_generations]
  · rw [throughRelay_open s _ _ _ hopen, endCommand_generations, readyDown_generation_ne _ hv,
      beginCommand_generations]

theorem request_generations {code tag : Word} {f : State → Reply × State}
    (h : (.next (whenOpen [] (requestWrite code tag f) s) : Host.Outcome State Fault Refusal) = .next t)
    (hf : ∀ t, (f t).2.generations = t.generations) : t.generations = s.generations :=
  generations_of_whenOpen h fun t => requestWrite_generations t code tag f hf

/-- No command but one of the power, or a fall of READY, changes a generation. -/
theorem exec_generations {c : Instr} (h : exec c s = .next t) (hpower : ofPower c = false)
    (hfall : ∀ u arrived, c ≠ .readyFall u arrived) : t.generations = s.generations := by
  cases c with
  | powerOnReset => cases hpower
  | powerLoss => cases hpower
  | readyFall u arrived => exact absurd rfl (hfall u arrived)
  | bypassOpen => exact execBypassOpen_generations h
  | unitSelect u => exact execUnitSelect_generations h
  | seek cyl => exact execSeek_generations h
  | returnToZero => exact execReturnToZero_generations h
  | readSector head sector noise => exact execReadSector_generations h
  | writeSector head sector data check => exact execWriteSector_generations h
  | formatTrack head headers => exact execFormatTrack_generations h
  | cableInitialize => exact execCableInitialize_generations h
  | indexMark u noise =>
    exact generations_of_throughRelay h (fun _ => rfl) fun t =>
      settleIfRetired_generations t _ fun t => takeIndex_generations t u
  | waitHoldExpiry u noise =>
    exact generations_of_whenOpen h fun t =>
      settleIfRetired_generations t _ fun t => takeExpiry_generations t .wait u
  | failureHoldExpiry u noise =>
    exact generations_of_whenOpen h fun t =>
      settleIfRetired_generations t _ fun t => takeExpiry_generations t .failure u
  | grant noise => exact generations_of_whenOpen h decideGrant_generations
  | seekEnd u noise => exact execSeekEnd_generations h
  | seekFault u noise => exact execSeekFault_generations h
  | driveFault u arrived =>
    exact generations_of_lineChange h (fun _ => rfl) (fun t => joinedCut_generations t u arrived)
      fun t => faultOnset_generations t u arrived
  | returnToService u =>
    exact generations_of_lineChange h (fun _ => rfl) (fun _ => rfl) fun t => faultCleared_generations t u
  | readyRise u =>
    exact generations_of_lineChange h (fun _ => rfl) (fun _ => rfl) fun t => readyUp_generations t u
  | streamChecked d noise =>
    exact generations_of_throughRelay h (fun t => joinedStream_generations t d) fun t => endStream_generations t d
  | writeAnswer a =>
    exact generations_of_throughRelay h (fun t => joinedAnswer_generations t a) fun t =>
      takeWriteAnswer_generations t a
  | revolutionEnd noise => exact generations_of_whenOpen h takeRevolutionEnd_generations
  | mergeVerdict job sector noise =>
    exact generations_of_whenOpen h fun t => writeVerdict_generations t job sector
  | reportStatus tag => exact request_generations h fun _ => rfl
  | loadGeometry tag a b c d e f g i j =>
    exact request_generations h fun t => askGeometry_generations t a b c d e f g i j
  | loadPlan tag a b steps => exact request_generations h fun t => askPlan_generations t a b steps
  | setPolicy tag a b => exact request_generations h fun t => askPolicy_generations t a b
  | setLimits tag a b c => exact request_generations h fun _ => rfl
  | recoverSector tag a b c d => exact request_generations h fun t => askSector_generations t a b c d
  | recoverTrack tag a b c d => exact request_generations h fun t => askTrack_generations t a b c d
  | cancelJob tag a => exact request_generations h fun t => askCancel_generations t a
  | takeRecords tag a => exact request_generations h fun _ => rfl
  | storeDirectory tag a => exact request_generations h fun t => askDirectory_generations t a
  | pinEntry tag a b c d => exact request_generations h fun t => askPin_generations t a b c d true
  | unpinEntry tag a b c d => exact request_generations h fun t => askPin_generations t a b c d false
  | dropEntry tag a b c d => exact request_generations h fun t => askDrop_generations t a b c d
  | adoptEntries tag a => exact request_generations h fun t => askAdopt_generations t a
  | clear tag a => exact request_generations h fun t => askClear_generations t a
  | requestRefused data check => exact execRequestRefused_generations h

end

/-- A command that changes a unit's generation is one of the power, or a fall of READY on that unit. -/
theorem exec_generation_ne {c : Instr} {u : UnitNo} {s t : State} (h : exec c s = .next t)
    (hne : t.generations u ≠ s.generations u) : ofPower c = true ∨ ∃ arrived, c = .readyFall u arrived := by
  cases hpower : ofPower c with
  | true => exact .inl rfl
  | false =>
    refine .inr ?_
    by_contra hother
    by_cases hfall : ∃ v arrived, c = .readyFall v arrived
    · obtain ⟨v, arrived, rfl⟩ := hfall
      refine hne (execReadyFall_generation_ne (fun e => hother ⟨arrived, ?_⟩) h)
      rw [e]
    · exact hne (congrFun (exec_generations h hpower fun v arrived e => hfall ⟨v, arrived, e⟩) u)

/-- Settles O59: a step is its front command's, and idles without one. -/
theorem generationAdvancesOnlyOnFall : Obligations.GenerationAdvancesOnlyOnFall := by
  intro s t u ht hne
  unfold step at ht
  cases hp : s.pending with
  | nil =>
    rw [hp] at ht
    cases ht
    exact absurd rfl hne
  | cons c rest =>
    rw [hp] at ht
    exact ⟨c, rfl, exec_generation_ne (s := { s with pending := rest }) ht hne⟩

end Sys2Proof.Machine
end

section
/-! SUPPORT. What a failing drive ends (R53, R55): its operation in flight, its jobs and the controller's
operation on it, without a readout made or a read taken up again. -/

namespace Sys2Proof.Machine

variable {s : State}

/-! ### Slots that the relay has let go -/

/-- Slot `i` is not the relay's, and of a bank in retirement not to be taken either. -/
def State.LetGo (s : State) (i : SlotId) : Prop :=
  (s.slot i).owner ≠ some .relay ∧ (s.bankRetired (bankOf i) = true → (s.slot i).state ≠ .free)

theorem State.LetGo.of_eq {t : State} {i : SlotId} (h : s.LetGo i) (hslots : t.slots = s.slots)
    (hbanks : t.banks = s.banks) : t.LetGo i := by
  rw [LetGo, slot, bankRetired, hslots, hbanks]
  exact h

theorem letGo_freeSlot (i : SlotId) : (freeSlot i s).LetGo i := by
  rw [State.LetGo, freeSlot_slot, if_pos rfl]
  refine ⟨nofun, fun h => ?_⟩
  have retired : s.bankRetired (bankOf i) = true := h
  simp [State.freedSlot, retired]

/-- A slot let go is so while no readout has gone on, whatever becomes of another. -/
theorem State.LetGo.freeSlot {k : SlotId} (h : s.LetGo k) (i : SlotId) : (freeSlot i s).LetGo k := by
  by_cases e : k = i
  · subst e
    exact letGo_freeSlot k
  · rw [State.LetGo, freeSlot_slot, if_neg e]
    exact h

theorem State.LetGo.releaseSlot {k : SlotId} (h : s.LetGo k) (i : SlotId) : (releaseSlot i s).LetGo k := by
  obtain ⟨-, e⟩ | ⟨-, x, e, -⟩ := releaseSlot_eq_freeSlot s i <;> rw [e]
  · exact h
  · exact h.freeSlot i

/-- The relay lets go of a slot that it releases. -/
theorem letGo_releaseSlot {i : SlotId} (h : (s.slot i).owner = some .relay ∨ s.LetGo i) :
    (releaseSlot i s).LetGo i := by
  rcases h with h | h
  · obtain ⟨hn, -⟩ | ⟨-, x, e, -⟩ := releaseSlot_eq_freeSlot s i
    · simp [h] at hn
    · rw [e]
      exact letGo_freeSlot i
  · exact h.releaseSlot i

theorem bankRetired_of_allRetired (h : s.allRetired = true) (b : Fin 2) : s.bankRetired b = true := by
  obtain ⟨h0, h1⟩ : s.bankRetired 0 = true ∧ s.bankRetired 1 = true := by simpa [State.allRetired] using h
  match b with
  | 0 => exact h0
  | 1 => exact h1

/-- The jobs' finding where they stand gives the relay no slot that it has let go: it takes one only for a read
taken up again, once no bank is left in service. -/
theorem State.LetGo.settleJobs {i : SlotId} (h : s.LetGo i) : (settleJobs s).LetGo i := by
  refine KeptBySettling.settleJobs (P := fun t => t.LetGo i)
    { job := fun _ _ _ _ ht => ht
      leave := fun _ _ ht => ht
      free := fun k _ ht => ht.freeSlot k
      fill := fun n k t ht => ?_
      ended := fun n t hall ht => ?_ } h
  · by_cases e : i = k
    · subst e
      rw [LetGo, fillFor, modSlot_slot_same]
      exact ⟨nofun, fun _ => nofun⟩
    · rw [LetGo, fillFor, modSlot_slot_ne t _ e]
      exact ht
  · have retired := bankRetired_of_allRetired hall (bankOf i)
    obtain ⟨-, hfree, hrelay⟩ := ((Follows.refl (p := fun _ => True)).endJob (readsOn_any t) n .faultedSlot).outOfUse
      i ⟨retired, ht.2 retired, ht.1⟩
    exact ⟨hrelay, fun _ => hfree⟩

/-! ### What a failing drive ends -/

/-- The controller's operation `op` is over, answered with status `st`. -/
def State.AnsweredWith (s : State) (op : ControllerOp) (st : Status) : Prop :=
  s.current = none ∧ (s.unit op.unit).hold = none ∧ .answer op.unit (.status st) ∈ s.out

/-- `t` follows on `s` by a failing drive's ending of work: no read is taken up again, no bank retires, the
relay takes no slot, and the controller's operation, where it ends, is answered with `st`. -/
structure Failing (st : Status) (s t : State) : Prop where
  follows : Follows (fun _ => False) s t
  banks : t.banks = s.banks
  slot : ∀ i, (t.slot i).owner = (s.slot i).owner ∧ (t.slot i).state = (s.slot i).state ∨ t.LetGo i
  out : ∀ e ∈ s.out, e ∈ t.out
  hold : ∀ v, (s.unit v).hold = none → (t.unit v).hold = none
  answered : ∀ op, s.current = some op → t.current = some op ∨ t.AnsweredWith op st

theorem answerCurrent_answeredWith {op : ControllerOp} (st : Status) (h : s.current = some op) :
    (answerCurrent (.status st) s).AnsweredWith op st := by
  obtain ⟨⟨x, l, e⟩, hunit, -⟩ := answerCurrent_answered (.status st) h
  rw [State.AnsweredWith, hunit, if_pos rfl, e]
  exact ⟨rfl, rfl, List.mem_append_right _ List.mem_cons_self⟩

theorem giveUpWork_hold (n : Nat) (s : State) (v : UnitNo) :
    ((giveUpWork n s).unit v).hold = (s.unit v).hold := by
  rw [giveUpWork, leaveArbiter, State.unit, Table.get_map]
  rfl

namespace Failing

variable {st : Status} {t r : State}

theorem refl : Failing st s s :=
  ⟨.refl, rfl, fun _ => .inl ⟨rfl, rfl⟩, fun _ => id, fun _ => id, fun _ => .inl⟩

theorem current (h : Failing st s t) {op : ControllerOp} (e : t.current = some op) : s.current = some op :=
  (h.follows.current op e).elim id False.elim

theorem idle (h : Failing st s t) (e : s.current = none) : t.current = none :=
  Option.eq_none_iff_forall_ne_some.2 fun _ ho => nomatch e.symm.trans (h.current ho)

theorem background (h : Failing st s t) (hb : ∀ j ∈ s.jobList, j.foreground = false) :
    ∀ j ∈ t.jobList, j.foreground = false := h.follows.background (fun _ => id) hb

theorem letGo (h : Failing st s t) {i : SlotId} (hi : s.LetGo i) : t.LetGo i := by
  rcases h.slot i with ⟨howner, hstate⟩ | hi'
  · rw [State.LetGo, howner, hstate, State.bankRetired, h.banks]
    exact hi
  · exact hi'

theorem answeredWith (h : Failing st s t) {op : ControllerOp} (ha : s.AnsweredWith op st) :
    t.AnsweredWith op st := by
  obtain ⟨hnone, hhold, hout⟩ := ha
  exact ⟨h.idle hnone, h.hold _ hhold, h.out _ hout⟩

theorem trans (h : Failing st s t) (g : Failing st t r) : Failing st s r where
  follows := h.follows.trans g.follows
  banks := g.banks.trans h.banks
  slot i := by
    rcases h.slot i with ⟨howner, hstate⟩ | hi
    · exact (g.slot i).imp_left fun e => ⟨e.1.trans howner, e.2.trans hstate⟩
    · exact .inr (g.letGo hi)
  out e he := g.out e (h.out e he)
  hold v hv := g.hold v (h.hold v hv)
  answered op ho := by
    rcases h.answered op ho with ht | ht
    · exact g.answered op ht
    · exact .inr (g.answeredWith ht)

theorem emit (h : Failing st s t) (e : Emission) : Failing st s (emit e t) where
  __ := h
  follows := h.follows.emit e
  out x hx := List.mem_append_left _ (h.out x hx)
  answered op ho := (h.answered op ho).imp_right fun ⟨hn, hh, hx⟩ => ⟨hn, hh, List.mem_append_left _ hx⟩

theorem onlyReserves (h : Failing st s t) (g : OnlyReserves t r) : Failing st s r := by
  have follows := h.follows.onlyReserves g
  obtain ⟨⟨x, rfl⟩, -⟩ := g
  exact { h with follows }

theorem freeSlot (h : Failing st s t) (i : SlotId) : Failing st s (freeSlot i t) where
  __ := h
  follows := h.follows.freeSlot i
  slot k := by
    by_cases e : k = i
    · subst e
      exact .inr (letGo_freeSlot k)
    · rcases h.slot k with hk | hk
      · rw [freeSlot_slot, if_neg e]
        exact .inl hk
      · exact .inr (hk.freeSlot i)

theorem modJob (h : Failing st s t) (n : Nat) (f : Job → Job)
    (hf : ∀ j, (f j).number = j.number ∧ (f j).unit = j.unit ∧
      ((f j).foreground = true → j.foreground = true ∨ ∃ _ : UnitNo, False)) :
    Failing st s (modJob n f t) :=
  { h with follows := h.follows.modJob n f hf }

theorem releaseSlot (h : Failing st s t) (i : SlotId) : Failing st s (releaseSlot i t) := by
  obtain ⟨-, e⟩ | ⟨-, e⟩ | ⟨n, -, e | ⟨-, -, e⟩⟩ := releaseSlot_cases t i <;> rw [e]
  · exact h
  · exact (h.freeSlot i).onlyReserves (restoreReservations_onlyReserves _)
  · exact h.freeSlot i
  · exact (h.modJob n _ (by intro; exact ⟨rfl, rfl, .inl⟩)).freeSlot i

theorem releaseOption (h : Failing st s t) : ∀ slot : Option SlotId, Failing st s (releaseOption slot t)
  | none => h
  | some i => h.releaseSlot i

/-- A slot keeps its owner and its place when the stream it was filled with breaks off (R7). -/
theorem cutSlot (h : Failing st s t) (i : SlotId) (arrived : List Word) : Failing st s (cutSlot i arrived t) := by
  have kept : ∀ k, ((Machine.cutSlot i arrived t).slot k).owner = (t.slot k).owner ∧
      ((Machine.cutSlot i arrived t).slot k).state = (t.slot k).state := fun k => by
    by_cases e : k = i
    · subst e
      rw [Machine.cutSlot, modSlot_slot_same]
      exact ⟨rfl, rfl⟩
    · rw [Machine.cutSlot, modSlot_slot_ne t _ e]
      exact ⟨rfl, rfl⟩
  refine { h with follows := h.follows.modSlot i _ fun gone => ⟨gone.2.1, gone.2.2⟩, slot := fun k => ?_ }
  obtain ⟨howner, hstate⟩ := kept k
  rw [State.LetGo, howner, hstate]
  exact h.slot k

/-! ### The operation in flight (R7, R43, R53) -/

theorem cutRelayRead (h : Failing st s t) (g : Grant) (k : ReadKind) (arrived : List Word) :
    Failing st s (cutRelayRead g k arrived t) := by
  have sent : ∀ c : Bool, Failing st s (if c then emitBroken g.unit arrived t else t) := fun c => by
    cases c with
    | false => exact h
    | true =>
      simp only [if_true, emitBroken]
      split
      · exact h
      · exact h.emit _
  unfold Machine.cutRelayRead
  dsimp only
  split
  · exact ((sent _).cutSlot _ _).releaseSlot _
  · exact sent _

theorem cutGrant {g : Grant} (u : UnitNo) (arrived : List Word) (hg : s.grant = some g) (hu : g.unit = u) :
    Failing st { s with grant := none } (cutGrant u arrived s) := by
  unfold Machine.cutGrant
  split
  · rename_i e
    exact nomatch hg.symm.trans e
  · rename_i x e
    obtain rfl : g = x := Option.some.inj (hg.symm.trans e)
    rw [if_neg (not_not_intro hu)]
    dsimp only
    split
    · exact refl.cutRelayRead ..
    · unfold cutJobRead
      split
      · exact refl.cutSlot ..
      · exact refl
    · exact refl

/-! ### The controller's operation -/

theorem answerCurrent (h : Failing st s t) : Failing st s (answerCurrent (.status st) t) := by
  cases ho : t.current with
  | none => rwa [answerCurrent_none _ ho]
  | some op =>
    have given := answerCurrent_answeredWith st ho
    obtain ⟨⟨x, l, e⟩, hunit, -⟩ := answerCurrent_answered (.status st) ho
    have follows := (Follows.refl (p := fun _ => False) (s := t)).answerCurrent (.status st)
    refine h.trans { follows, banks := by rw [e], slot := fun i => .inl (by rw [e]; exact ⟨rfl, rfl⟩),
                     out := fun y hy => ?_, hold := fun v hv => ?_, answered := fun y hy => .inr ?_ }
    · rw [e]
      exact List.mem_append_left _ hy
    · rw [hunit]
      split
      · rfl
      · exact hv
    · obtain rfl : op = y := Option.some.inj (ho.symm.trans hy)
      exact given

theorem failCurrent (h : Failing st s t) : Failing st s (failCurrent st t) := by
  unfold Machine.failCurrent
  split
  · exact h
  · split
    · exact h.answerCurrent
    · exact (h.releaseOption _).answerCurrent

/-! ### The unit's jobs (R87, R90) -/

theorem giveUpWork (h : Failing st s t) (n : Nat) : Failing st s (giveUpWork n t) where
  __ := h
  follows := h.follows.giveUpWork n
  hold v := by
    rw [giveUpWork_hold]
    exact h.hold v
  answered op := by
    rw [State.AnsweredWith, giveUpWork_hold]
    exact h.answered op

theorem appendRecord (h : Failing st s t) (x : Record) : Failing st s (appendRecord x t) := by
  have follows := h.follows.appendRecord x
  rw [appendRecord_eq] at follows ⊢
  exact { h with follows }

theorem releaseJobSlots (h : Failing st s t) (n : Nat) : Failing st s (releaseJobSlots n t) :=
  releaseSlots_induct _ (Failing st s) (fun i _ hi => hi.releaseSlot i) _ h

theorem dropJob (h : Failing st s t) (n : Nat) : Failing st s (dropJob n t) :=
  { h with follows := h.follows.dropJob n }

end Failing

/-- The controller waiting for a job of the failed drive is answered with its status, and its read is over
(R36). -/
theorem settleHeld_faultedDrive (j : Job) (st : Status) (s : State) : settleHeld j (.faultedDrive st) s =
    (false, if j.foreground then answerCurrent (.status st) s else s) := by
  unfold settleHeld
  cases j.foreground with
  | false => rfl
  | true => cases j.kind <;> rfl

/-- The steps of posting that the end of a failed drive's job comes to. -/
theorem endJob_faultedDrive {n : Nat} {j : Job} (st : Status) (hj : s.job n = some j) :
    ∃ x : Record, endJob n (.faultedDrive st) s = restoreReservations (dropJob n (releaseJobSlots n
      (noteJobEnded (appendRecord x (if j.foreground then answerCurrent (.status st) (giveUpWork n s)
        else giveUpWork n s))))) := by
  rw [endJob, hj]
  simp only [settleHeld_faultedDrive, Bool.false_eq_true, if_false]
  rw [postResults_dataless _ _ (.faultedDrive st) (by simp [endingResult])]
  exact ⟨_, rfl⟩

namespace Failing

variable {st : Status} {t : State}

/-- What follows on a job's work being given up. -/
theorem afterWork {n : Nat} {j : Job} (hj : s.job n = some j) :
    Failing st (Machine.giveUpWork n s) (endJob n (.faultedDrive st) s) := by
  obtain ⟨x, e⟩ := endJob_faultedDrive st hj
  have answered : Failing st (Machine.giveUpWork n s) (if j.foreground then
      Machine.answerCurrent (.status st) (Machine.giveUpWork n s) else Machine.giveUpWork n s) := by
    split
    · exact refl.answerCurrent
    · exact refl
  have recorded := answered.appendRecord x
  have noted : Failing st (Machine.giveUpWork n s) (noteJobEnded (Machine.appendRecord x _)) :=
    { recorded with follows := { recorded.follows with } }
  rw [e]
  exact ((noted.releaseJobSlots n).dropJob n).onlyReserves (restoreReservations_onlyReserves _)

theorem endJob (h : Failing st s t) (n : Nat) : Failing st s (endJob n (.faultedDrive st) t) := by
  cases hj : t.job n with
  | none => rwa [Machine.endJob, hj]
  | some j => exact (h.giveUpWork n).trans (afterWork hj)

theorem endJobs (h : Failing st s t) (q : Job → Bool) : Failing st s (endJobs q (.faultedDrive st) t) :=
  endJobs_induct t (Failing st s) q _ (fun n _ hr => hr.endJob n) h

end Failing

/-! ### Which jobs end -/

/-- The numbers of the jobs in the table, in entry order. -/
def State.numbers (s : State) : List Nat := s.jobList.map Job.number

theorem mem_numbers {n : Nat} : n ∈ s.numbers ↔ ∃ j ∈ s.jobList, j.number = n := List.mem_map

theorem job_none_iff {n : Nat} : s.job n = none ↔ n ∉ s.numbers := by
  simp [State.job, mem_numbers]

theorem JobsAlike.numbers {g : Job → Job} {t : State} (h : JobsAlike g s t) (hg : ∀ j, (g j).number = j.number) :
    t.numbers = s.numbers := by
  have e : Job.number ∘ g = Job.number := funext hg
  have hmap := congrArg (List.map Job.number) h
  rwa [List.map_map, List.map_map, e] at hmap

theorem answerCurrent_numbers (a : Answer) (s : State) : (answerCurrent a s).numbers = s.numbers := by
  cases ho : s.current with
  | none => rw [answerCurrent_none a ho]
  | some op => exact (answerCurrent_answered a ho).jobs.numbers fun _ => rfl

/-- A failed drive's job leaves the table, and no other does. -/
theorem endJob_numbers (n : Nat) (st : Status) (s : State) :
    (endJob n (.faultedDrive st) s).numbers = s.numbers.filter (· ≠ n) := by
  cases hj : s.job n with
  | none =>
    rw [endJob, hj]
    refine (List.filter_eq_self.2 fun m hm => ?_).symm
    have hne : m ≠ n := fun e => job_none_iff.1 hj (e ▸ hm)
    simpa using hne
  | some j =>
    obtain ⟨x, e⟩ := endJob_faultedDrive st hj
    have answered : (noteJobEnded (appendRecord x (if j.foreground then
        answerCurrent (.status st) (giveUpWork n s) else giveUpWork n s))).numbers = s.numbers := by
      rw [appendRecord_eq]
      split
      · exact answerCurrent_numbers _ (giveUpWork n s)
      · rfl
    rw [e, (restoreReservations_onlyReserves _).2.numbers fun _ => rfl, State.numbers,
      dropJob_releaseJobSlots_jobList, ← answered, State.numbers, List.filter_map]
    rfl

/-- It leaves the arbiter too (R48, R90). -/
theorem endJob_owner {n : Nat} (st : Status) (hn : n ∈ s.numbers) (v : UnitNo) :
    ((endJob n (.faultedDrive st) s).unit v).owner ≠ some n := fun howner => by
  obtain ⟨j, hj⟩ := Option.ne_none_iff_exists'.1 fun h => job_none_iff.1 h hn
  have given := (((Failing.afterWork (st := st) hj).follows.unit v).owner n howner)
  rw [giveUpWork, leaveArbiter, State.unit, Table.get_map] at given
  simp [Option.filter_eq_some_iff] at given

/-- The jobs of a list of numbers ended one after another. -/
def endList (st : Status) (l : List Nat) (s : State) : State :=
  l.foldl (fun s n => endJob n (.faultedDrive st) s) s

theorem endList_failing (st : Status) (l : List Nat) (s : State) : Failing st s (endList st l s) :=
  foldl_induct (Failing st s) _ (fun _ n h => h.endJob n) _ _ .refl

theorem endList_numbers (st : Status) (l : List Nat) (s : State) {n : Nat} :
    n ∈ (endList st l s).numbers ↔ n ∈ s.numbers ∧ n ∉ l := by
  induction l generalizing s with
  | nil => simp [endList]
  | cons m l ih =>
    change n ∈ (endList st l (endJob m (.faultedDrive st) s)).numbers ↔ _
    rw [ih, endJob_numbers]
    simp [and_assoc]

theorem endList_owner (st : Status) {l : List Nat} {s : State} {n : Nat} (hn : n ∈ s.numbers) (hl : n ∈ l)
    (v : UnitNo) : ((endList st l s).unit v).owner ≠ some n := by
  induction l generalizing s with
  | nil => cases hl
  | cons m l ih =>
    change ((endList st l (endJob m (.faultedDrive st) s)).unit v).owner ≠ some n
    by_cases e : n = m
    · subst e
      exact fun h => endJob_owner st hn v (((endList_failing st l _).follows.unit v).owner n h)
    · refine ih ?_ ((List.mem_cons.1 hl).resolve_left e)
      rw [endJob_numbers]
      exact List.mem_filter.2 ⟨hn, decide_eq_true e⟩

theorem mem_jobNumbers {p : Job → Bool} {n : Nat} :
    n ∈ s.jobNumbers p ↔ ∃ j ∈ s.jobList, p j = true ∧ j.number = n := by
  simp [State.jobNumbers, (sortBy_perm ..).mem_iff, and_assoc]

section
variable (u : UnitNo) (st : Status) (s : State)

/-- None of a failed unit's jobs is left. -/
theorem endJobs_unit : ∀ j ∈ (endJobs (fun j => j.unit = u) (.faultedDrive st) s).jobList, j.unit ≠ u := by
  intro j hj hu
  obtain ⟨x, hx, hnumber, hunit, -⟩ :=
    ((Failing.refl (s := s)).endJobs (st := st) fun j => j.unit = u).follows.jobs j hj
  have listed : j.number ∈ s.jobNumbers fun j => j.unit = u :=
    mem_jobNumbers.2 ⟨x, hx, decide_eq_true (hunit.trans hu), hnumber⟩
  exact ((endList_numbers st _ s).1 (mem_numbers.2 ⟨j, hj, rfl⟩)).2 listed

/-- None of them owns a unit's positioning. -/
theorem endJobs_owner {j : Job} (hj : j ∈ s.jobList) (hu : j.unit = u) (v : UnitNo) :
    ((endJobs (fun j => j.unit = u) (.faultedDrive st) s).unit v).owner ≠ some j.number :=
  endList_owner st (mem_numbers.2 ⟨j, hj, rfl⟩) (mem_jobNumbers.2 ⟨j, hj, decide_eq_true hu, rfl⟩) v

end

/-- The end of a job for which no controller waits leaves the controller's operation. -/
theorem endJob_current (n : Nat) (st : Status) (s : State) (hb : ∀ j ∈ s.jobList, j.foreground = false) :
    (endJob n (.faultedDrive st) s).current = s.current := by
  cases hj : s.job n with
  | none => rw [endJob, hj]
  | some j =>
    obtain ⟨x, e⟩ := endJob_faultedDrive st hj
    obtain ⟨⟨l, hl⟩, -⟩ := restoreReservations_onlyReserves (dropJob n (releaseJobSlots n
      (noteJobEnded (appendRecord x (giveUpWork n s)))))
    simp only [hb j (job_mem s hj), Bool.false_eq_true, if_false] at e
    rw [e, hl, dropJob, releaseJobSlots, releaseSlots_eq, appendRecord_eq]
    rfl

theorem endJobs_current (q : Job → Bool) (st : Status) (s : State)
    (hb : ∀ j ∈ s.jobList, j.foreground = false) : (endJobs q (.faultedDrive st) s).current = s.current := by
  have kept := endJobs_induct s (fun t => Failing st s t ∧ t.current = s.current) q (.faultedDrive st)
    (fun n t h => ⟨h.1.endJob n, (endJob_current n st t (h.1.background hb)).trans h.2⟩) ⟨.refl, rfl⟩
  exact kept.2

end Sys2Proof.Machine
end

section
/-! SUPPORT. A unit fails (R53, R55). -/

namespace Sys2Proof.Machine

variable {s : State}

/-! ### The operation in flight -/

/-- A relay's read cut short: words may break off on their way up, and the slot, where there is one, is
released with what came (R7, R53). -/
theorem cutRelayRead_cases (g : Grant) (k : ReadKind) (arrived : List Word) (s : State) : ∃ o,
    g.slots.head? = none ∧ cutRelayRead g k arrived s = { s with out := o } ∨
    ∃ i, g.slots.head? = some i ∧
      cutRelayRead g k arrived s = releaseSlot i (cutSlot i arrived { s with out := o }) := by
  have sent : ∀ c : Bool, ∃ o, (if c then emitBroken g.unit arrived s else s) = { s with out := o } := fun c => by
    cases c with
    | false => exact ⟨_, rfl⟩
    | true =>
      simp only [if_true, emitBroken]
      split <;> exact ⟨_, rfl⟩
  obtain ⟨o, e⟩ := sent (!g.abandoned && sentUp k g.slots.head? (s.unit g.unit).geometry.mode)
  refine ⟨o, ?_⟩
  rw [cutRelayRead, e]
  cases hi : g.slots.head? with
  | none => exact .inl ⟨rfl, rfl⟩
  | some i => exact .inr ⟨i, rfl, rfl⟩

/-- Cutting the operation in flight short touches the grant, the slots with the reservations on them, and what
goes up. -/
theorem cutGrant_fields (u : UnitNo) (arrived : List Word) (s : State) : ∃ g x l o,
    cutGrant u arrived s = { s with grant := g, slots := x, jobs := l, out := o } ∧
    JobsAlike Job.unreserved s (cutGrant u arrived s) := by
  unfold cutGrant
  split
  · exact ⟨_, _, _, _, rfl, rfl⟩
  · rename_i g _
    split
    · exact ⟨_, _, _, _, rfl, rfl⟩
    · dsimp only
      split
      · rename_i k _ _ _ _
        obtain ⟨o, ⟨-, e⟩ | ⟨i, -, e⟩⟩ := cutRelayRead_cases g k arrived { s with grant := none } <;> rw [e]
        · exact ⟨_, _, _, _, rfl, rfl⟩
        · exact ⟨_, _, _, _, releaseSlot_eq _ i, releaseSlot_jobsAlike _ i⟩
      · unfold cutJobRead
        split
        · exact ⟨_, _, _, _, rfl, rfl⟩
        · exact ⟨_, _, _, _, rfl, rfl⟩
      · exact ⟨_, _, _, _, rfl, rfl⟩

theorem cutGrant_cases (u : UnitNo) (st : Status) (arrived : List Word) (s : State) :
    (∀ g, s.grant = some g → g.unit ≠ u) ∧ cutGrant u arrived s = s ∨
    Failing st { s with grant := none } (cutGrant u arrived s) := by
  by_cases h : ∃ g, s.grant = some g ∧ g.unit = u
  · obtain ⟨g, hg, hu⟩ := h
    exact .inr (.cutGrant u arrived hg hu)
  · have other : ∀ g, s.grant = some g → g.unit ≠ u := fun g hg hu => h ⟨g, hg, hu⟩
    refine .inl ⟨other, ?_⟩
    cases hg : s.grant with
    | none => rw [cutGrant, hg]
    | some g =>
      rw [cutGrant, hg]
      exact if_pos (other g hg)

/-- No grant is left on the unit. -/
theorem cutGrant_grant {u : UnitNo} {arrived : List Word} {g : Grant}
    (h : (cutGrant u arrived s).grant = some g) : g.unit ≠ u := by
  obtain ⟨other, e⟩ | cut := cutGrant_cases u .driveFault arrived s
  · exact other g (by rwa [e] at h)
  · obtain ⟨x, hx, -⟩ := cut.follows.grant g h
    cases hx

theorem cutGrant_failing (u : UnitNo) (st : Status) (arrived : List Word) (s : State) :
    Failing st s (cutGrant u arrived s) := by
  have free : Failing st s { s with grant := none } :=
    { Failing.refl (s := s) with follows := { Follows.refl (s := s) with grant := nofun } }
  obtain ⟨-, e⟩ | cut := cutGrant_cases u st arrived s
  · rw [e]
    exact .refl
  · exact free.trans cut

/-- The slot of the relay's read that is cut short is let go. -/
theorem letGo_cutGrant {u : UnitNo} {g : Grant} {k : ReadKind} {head sector : Nat} {i : SlotId}
    (arrived : List Word) (hg : s.grant = some g) (hu : g.unit = u) (hk : g.holder = .relay k)
    (hop : g.op = .readSector head sector) (hi : g.slots = [i]) (ho : (s.slot i).owner = some .relay) :
    (cutGrant u arrived s).LetGo i := by
  have e : cutGrant u arrived s = cutRelayRead g k arrived { s with grant := none } := by
    rw [cutGrant, hg]
    simp only [hu, ne_eq, not_true_eq_false, if_false, hk, hop]
  obtain ⟨o, ⟨hn, -⟩ | ⟨x, hx, ex⟩⟩ := cutRelayRead_cases g k arrived { s with grant := none }
  · simp [hi] at hn
  · obtain rfl : i = x := by simpa [hi] using hx
    rw [e, ex]
    refine letGo_releaseSlot (.inl ?_)
    rw [cutSlot, modSlot_slot_same]
    exact ho

/-! ### The unit's motion, its jobs and the controller's operation -/

/-- Of a unit without a motion or a recovery the ends of jobs leave all but its owner, hold and counters. -/
theorem UnitEntry.Released.still {e e' : UnitEntry} (released : e.Released e') (hm : e.motion = none)
    (hr : e.recovery = none) : ∃ o h c, e' = { e with owner := o, hold := h, counters := c } := by
  obtain ⟨m, r, o, h, c, rfl⟩ := released.fields
  have motion : m = none := released.motion hm
  have recovery : r = none := released.recovery hr
  rw [motion, recovery, ← hm, ← hr]
  exact ⟨o, h, c, rfl⟩

/-- The unit with its motion and seek recovery over and its drive's cylinder unknown. -/
def UnitEntry.stopped (e : UnitEntry) : UnitEntry :=
  { e with motion := none, driveCyl := none, recovery := none }

/-- The unit with nothing known of its seeks and no track counted. -/
def UnitEntry.astray (e : UnitEntry) : UnitEntry :=
  { e with seekPending := false, controllerCyl := none, offTrack := 0, countedTrack := none }

/-- The operation in flight on unit `u` cut short, and the unit's motion over. -/
def cutShort (u : UnitNo) (arrived : List Word) (s : State) : State :=
  modUnit u UnitEntry.stopped (cutGrant u arrived s)

/-- The unit's jobs ended too. -/
def endWork (u : UnitNo) (st : Status) (arrived : List Word) (s : State) : State :=
  endJobs (fun j => j.unit = u) (.faultedDrive st) (cutShort u arrived s)

/-- The controller's operation on unit `u` answered with `st`. -/
def failOperation (u : UnitNo) (st : Status) (all : Bool) (s : State) : State :=
  match s.current with
  | some op => if op.unit = u ∧ (all ∨ ¬receivingWrite op) then failCurrent st s else s
  | none => s

/-- Nothing known any more of the unit's seeks, and no seek of it asked for. -/
def forgetSeeks (u : UnitNo) (s : State) : State := modUnit u UnitEntry.astray (dropSeekItems u s)

section
variable (u : UnitNo) (s : State)

@[simp] theorem forgetSeeks_current : (forgetSeeks u s).current = s.current := rfl

@[simp] theorem forgetSeeks_grant : (forgetSeeks u s).grant = s.grant := rfl

@[simp] theorem forgetSeeks_jobList : (forgetSeeks u s).jobList = s.jobList := rfl

@[simp] theorem forgetSeeks_out : (forgetSeeks u s).out = s.out := rfl

@[simp] theorem forgetSeeks_unit : (forgetSeeks u s).unit u = (s.unit u).astray := Table.get_set_same ..

theorem forgetSeeks_unit_ne {v : UnitNo} (h : v ≠ u) : (forgetSeeks u s).unit v = s.unit v :=
  modUnit_unit_ne (dropSeekItems u s) _ h

@[simp] theorem forgetSeeks_letGo (i : SlotId) : (forgetSeeks u s).LetGo i ↔ s.LetGo i := .rfl

theorem seek_not_mem_forgetSeeks (cmd : SeekCmd) (b : Bool) : .seek u cmd b ∉ (forgetSeeks u s).items :=
  fun h => by simpa [Item.isSeekOf] using (List.mem_filter.1 h).2

end

section
variable (u : UnitNo) (st : Status) (all : Bool) (arrived : List Word) (s : State)

theorem failUnit_eq : failUnit u st all arrived s =
    forgetSeeks u (failOperation u st all (endWork u st arrived s)) := by
  rw [failUnit, clearOffTrack, modUnit_modUnit]
  rfl

/-- Up to its end the cutting short leaves the controller's operation, the notices and what goes up, and of the
units all but the failing drive's motion. -/
theorem cutShort_fields : ∃ g x l o, cutShort u arrived s = { s with
    units := s.units.set u (s.unit u).stopped, grant := g, slots := x, jobs := l, out := o } := by
  obtain ⟨g, x, l, o, e, -⟩ := cutGrant_fields u arrived s
  rw [cutShort, e]
  exact ⟨g, x, l, o, rfl⟩

theorem endWork_failing : Failing st (cutShort u arrived s) (endWork u st arrived s) := Failing.refl.endJobs _

theorem failOperation_failing : Failing st s (failOperation u st all s) := by
  unfold failOperation
  split
  · split
    · exact Failing.refl.failCurrent
    · exact .refl
  · exact .refl

/-- All that follows on the cutting short. -/
theorem failed_failing :
    Failing st (cutShort u arrived s) (failOperation u st all (endWork u st arrived s)) :=
  (endWork_failing u st arrived s).trans (failOperation_failing u st all _)

theorem cutShort_current : (cutShort u arrived s).current = s.current := by
  obtain ⟨g, x, l, o, e⟩ := cutShort_fields u arrived s
  rw [e]

theorem cutShort_unit (v : UnitNo) :
    (cutShort u arrived s).unit v = if v = u then (s.unit u).stopped else s.unit v := by
  obtain ⟨g, x, l, o, e⟩ := cutShort_fields u arrived s
  rw [e]
  exact Table.get_set ..

end

/-- A job ended by the failing is one of the unit that was there before. -/
theorem cutShort_mem {u : UnitNo} {arrived : List Word} {j : Job} (hj : j ∈ s.jobList) :
    ∃ k ∈ (cutShort u arrived s).jobList, k.number = j.number ∧ k.unit = j.unit := by
  obtain ⟨_, _, _, _, -, alike⟩ := cutGrant_fields u arrived s
  have hmem : j.unreserved ∈ (cutGrant u arrived s).jobList.map Job.unreserved := by
    rw [alike]
    exact List.mem_map_of_mem hj
  obtain ⟨k, hk, e⟩ := List.mem_map.1 hmem
  rw [Job.eq_of_unreserved e] at hk
  exact ⟨_, hk, rfl, rfl⟩

/-- The operation is answered unless it is a write being received that is spared. -/
theorem failOperation_answeredWith {u : UnitNo} {st : Status} {all : Bool} {op : ControllerOp}
    (ho : s.current = some op) (hu : op.unit = u) (hall : all = true ∨ receivingWrite op = false) :
    (failOperation u st all s).AnsweredWith op st := by
  have hc : op.unit = u ∧ (all ∨ ¬receivingWrite op) := ⟨hu, hall.imp_right Bool.eq_false_iff.1⟩
  simp only [failOperation, ho, if_pos hc, failCurrent]
  split
  · exact answerCurrent_answeredWith st ho
  · refine answerCurrent_answeredWith st ?_
    cases op.slot with
    | none => exact ho
    | some i =>
      rw [releaseOption, releaseSlot_eq]
      exact ho

/-! ### What a failed unit is left with -/

/-- `t` is `s` after all work on unit `u` has ended with status `st`; `all`: that of a write being received
too. -/
structure FailedUnit (u : UnitNo) (st : Status) (all : Bool) (s t : State) : Prop where
  jobs : ∀ j ∈ t.jobList, j.unit ≠ u
  grant : ∀ g, t.grant = some g → g.unit ≠ u
  items : ∀ cmd b, .seek u cmd b ∉ t.items
  owner : (∀ n, (s.unit u).owner = some n → ∃ j ∈ s.jobList, j.number = n ∧ j.unit = u) →
    (t.unit u).owner = none
  answered : ∀ op, s.current = some op → op.unit = u → (all = true ∨ receivingWrite op = false) →
    t.AnsweredWith op st
  waiting : ∀ (op : ControllerOp) (x : SlotId), s.current = some op → op.unit = u → op.issued = false →
    op.slot = some x → receivingWrite op = false → (∀ j ∈ s.jobList, j.foreground = false) →
    (s.slot x).owner = some .relay → t.LetGo x
  reading : ∀ (g : Grant) (k : ReadKind) (x : SlotId), s.grant = some g → g.unit = u → g.holder = .relay k →
    (∃ head sector, g.op = .readSector head sector) → g.slots = [x] →
    (s.slot x).owner = some .relay → t.LetGo x

section
variable (u : UnitNo) (st : Status) (all : Bool) (arrived : List Word) (s : State)

/-- Of the failing drive's unit no motion and no recovery is left, nothing is known of its cylinders, and no
track is counted. -/
theorem failUnit_unit : ∃ o h c, (failUnit u st all arrived s).unit u =
    UnitEntry.astray { (s.unit u).stopped with owner := o, hold := h, counters := c } := by
  have stopped := cutShort_unit u arrived s u
  rw [if_pos rfl] at stopped
  have released := (failed_failing u st all arrived s).follows.unit u
  rw [stopped] at released
  obtain ⟨o, h, c, e⟩ := released.still rfl rfl
  rw [failUnit_eq, forgetSeeks_unit]
  exact ⟨o, h, c, congrArg UnitEntry.astray e⟩

/-- A unit's owner after the failing is one that it had, and not one of the jobs ended. -/
theorem failUnit_owner {n : Nat} (h : ((failUnit u st all arrived s).unit u).owner = some n) :
    (s.unit u).owner = some n ∧ ∀ j ∈ s.jobList, j.number = n → j.unit ≠ u := by
  rw [failUnit_eq, forgetSeeks_unit] at h
  have worked := ((failOperation_failing u st all _).follows.unit u).owner n h
  refine ⟨?_, fun j hj hn hu => ?_⟩
  · have cut := ((endWork_failing u st arrived s).follows.unit u).owner n worked
    rw [cutShort_unit, if_pos rfl] at cut
    exact cut
  · obtain ⟨k, hk, hkn, hku⟩ := cutShort_mem (u := u) (arrived := arrived) hj
    exact endJobs_owner u st _ hk (hku.trans hu) u (worked.trans (congrArg some (hkn.trans hn).symm))

/-- Where no controller waits for a job, none of the unit's jobs' ends answers the controller's operation. -/
theorem endWork_current (hb : ∀ j ∈ s.jobList, j.foreground = false) :
    (endWork u st arrived s).current = s.current := by
  have background := (cutGrant_failing u st arrived s).background hb
  rw [endWork, endJobs_current _ st (cutShort u arrived s) background, cutShort_current]

/-- A slot is the relay's as before, or let go. -/
theorem endWork_slot {x : SlotId} (hr : (s.slot x).owner = some .relay) :
    ((endWork u st arrived s).slot x).owner = some .relay ∨ (endWork u st arrived s).LetGo x := by
  have worked := endWork_failing u st arrived s
  rcases (cutGrant_failing u st arrived s).slot x with ⟨cut, -⟩ | cut
  · refine (worked.slot x).imp_left fun e => e.1.trans ?_
    exact cut.trans hr
  · have gone : (cutShort u arrived s).LetGo x := cut
    exact .inr (worked.letGo gone)

/-- The slot of a read that waits for the cable is let go, where no job's end has answered the read before. -/
theorem failUnit_waiting {op : ControllerOp} {x : SlotId} (ho : s.current = some op) (hu : op.unit = u)
    (hi : op.issued = false) (hx : op.slot = some x) (hw : receivingWrite op = false)
    (hb : ∀ j ∈ s.jobList, j.foreground = false) (hr : (s.slot x).owner = some .relay) :
    (failUnit u st all arrived s).LetGo x := by
  have worked := (endWork_current u st arrived s hb).trans ho
  have hc : op.unit = u ∧ (all ∨ ¬receivingWrite op) := ⟨hu, .inr (Bool.eq_false_iff.1 hw)⟩
  have failed : failOperation u st all (endWork u st arrived s) =
      answerCurrent (.status st) (releaseSlot x (endWork u st arrived s)) := by
    simp only [failOperation, worked, if_pos hc, failCurrent, hi, hx, releaseOption, Bool.false_eq_true, if_false]
  have gone := letGo_releaseSlot (endWork_slot u st arrived s hr)
  have answered : (answerCurrent (.status st) (releaseSlot x (endWork u st arrived s))).LetGo x :=
    (Failing.answerCurrent (st := st) .refl).letGo gone
  rw [failUnit_eq, failed, forgetSeeks_letGo]
  exact answered

theorem failUnit_failed : FailedUnit u st all s (failUnit u st all arrived s) where
  jobs j hj := by
    rw [failUnit_eq, forgetSeeks_jobList] at hj
    obtain ⟨x, hx, -, hu, -⟩ := (failOperation_failing u st all _).follows.jobs j hj
    exact hu ▸ endJobs_unit u st _ x hx
  grant g hg := by
    rw [failUnit_eq, forgetSeeks_grant] at hg
    obtain ⟨x, hx, hu⟩ := (failed_failing u st all arrived s).follows.grant g hg
    exact hu ▸ cutGrant_grant hx
  items := by
    rw [failUnit_eq]
    exact seek_not_mem_forgetSeeks u _
  owner hown := Option.eq_none_iff_forall_ne_some.2 fun n hn => by
    obtain ⟨had, hother⟩ := failUnit_owner u st all arrived s hn
    obtain ⟨j, hj, hjn, hju⟩ := hown n had
    exact hother j hj hjn hju
  answered op ho hu hall := by
    have cut := (cutShort_current u arrived s).trans ho
    have given : (failOperation u st all (endWork u st arrived s)).AnsweredWith op st := by
      rcases (endWork_failing u st arrived s).answered op cut with worked | given
      · exact failOperation_answeredWith worked hu hall
      · exact (failOperation_failing u st all _).answeredWith given
    obtain ⟨hnone, hhold, hout⟩ := given
    rw [hu] at hhold
    rw [failUnit_eq, State.AnsweredWith, hu, forgetSeeks_current, forgetSeeks_unit, forgetSeeks_out]
    exact ⟨hnone, hhold, hu ▸ hout⟩
  waiting _ _ ho hu hi hx hw hb hr := failUnit_waiting u st all arrived s ho hu hi hx hw hb hr
  reading g k x hg hu hk hop hx hr := by
    obtain ⟨head, sector, hop⟩ := hop
    have cut : (cutShort u arrived s).LetGo x := (letGo_cutGrant arrived hg hu hk hop hx hr).of_eq rfl rfl
    rw [failUnit_eq, forgetSeeks_letGo]
    exact (failed_failing u st all arrived s).letGo cut

end

namespace FailedUnit

variable {u : UnitNo} {st : Status} {all : Bool} {t : State}

/-- The jobs' finding where they stand starts no work on a failed unit. -/
theorem settleJobs (h : FailedUnit u st all s t) : FailedUnit u st all s (settleJobs t) where
  jobs j hj := by
    obtain ⟨x, hx, -, hu, -⟩ := (settleJobs_follows t).jobs j hj
    exact hu ▸ h.jobs x hx
  grant g hg := by
    obtain ⟨x, hx, hu⟩ := (settleJobs_follows t).grant g hg
    exact hu ▸ h.grant x hx
  items cmd b hi := h.items cmd b (((settleJobs_follows t).items _ rfl).1 hi)
  owner hown := Option.eq_none_iff_forall_ne_some.2 fun n hn => by
    have had := ((settleJobs_follows t).unit u).owner n hn
    exact nomatch (h.owner hown).symm.trans had
  answered op ho hu hall := by
    obtain ⟨hnone, hhold, hout⟩ := h.answered op ho hu hall
    have quiet := (Quiet.refl hnone).settleJobs
    exact ⟨quiet.current, (quiet.face _).1.trans hhold, quiet.out ▸ hout⟩
  waiting op x ho hu hi hx hw hb hr := (h.waiting op x ho hu hi hx hw hb hr).settleJobs
  reading g k x hg hu hk hop hx hr := (h.reading g k x hg hu hk hop hx hr).settleJobs

/-- A line of the unit changed before and after changes none of it. -/
theorem lineChanged {before line : UnitEntry → UnitEntry}
    (h : FailedUnit u st all (modUnit u before (beginCommand [] s)) t)
    (hbefore : (before (s.unit u)).owner = (s.unit u).owner)
    (hline : ∀ e : UnitEntry, (line e).owner = e.owner ∧ (line e).hold = e.hold) :
    FailedUnit u st all s (modUnit u line (endCommand t)) where
  jobs := h.jobs
  grant := h.grant
  items := h.items
  owner hown := by
    rw [modUnit_unit_same, (hline _).1]
    refine h.owner fun n hn => hown n ?_
    rw [modUnit_unit_same] at hn
    exact hbefore.symm.trans hn
  answered op ho hu hall := by
    obtain ⟨hnone, hhold, hout⟩ := h.answered op ho hu hall
    rw [State.AnsweredWith, hu, modUnit_unit_same, (hline _).2]
    exact ⟨hnone, hu ▸ hhold, hu ▸ hout⟩
  waiting := h.waiting
  reading := h.reading

end FailedUnit

/-! ### The notice of a DRIVE FAULT (R53, R170) -/

section
variable (u : UnitNo) (st : Status) (all : Bool) (arrived : List Word) (s : State)

theorem failUnit_background (hb : ∀ j ∈ s.jobList, j.foreground = false) :
    ∀ j ∈ (failUnit u st all arrived s).jobList, j.foreground = false := by
  have background := (cutGrant_failing u st arrived s).background hb
  have failed := (failed_failing u st all arrived s).background background
  rw [failUnit_eq, forgetSeeks_jobList]
  exact failed

theorem failUnit_current {op : ControllerOp} (h : (failUnit u st all arrived s).current = some op) :
    s.current = some op := by
  rw [failUnit_eq, forgetSeeks_current] at h
  exact (cutShort_current u arrived s).symm.trans ((failed_failing u st all arrived s).current h)

/-- The controller's cylinder is unknown on the failed unit, and as it was on the others. -/
theorem failUnit_controllerCyl (v : UnitNo) : ((failUnit u st all arrived s).unit v).controllerCyl =
    if v = u then none else (s.unit v).controllerCyl := by
  split
  · subst_vars
    obtain ⟨o, h, c, e⟩ := failUnit_unit v st all arrived s
    rw [e]
    rfl
  · rename_i hv
    have kept := ((failed_failing u st all arrived s).follows.unit v).face UnitEntry.controllerCyl
      fun _ _ _ _ _ _ => rfl
    rw [cutShort_unit, if_neg hv] at kept
    rw [failUnit_eq, forgetSeeks_unit_ne _ _ hv]
    exact kept

/-- A DRIVE FAULT's notice stands once the jobs have found where they stand: no read that is taken up again then
is one of the maintenance cylinder, which takes a notice out. -/
theorem settleJobs_noteDriveFault (h : (∀ j ∈ s.jobList, j.foreground = false) ∨
      ∀ op, s.current = some op → (s.unit op.unit).controllerCyl ≠ some 1023) :
    (settleJobs (noteDriveFault (failUnit u st all arrived s))).notices.driveFault = true := by
  have background := failUnit_background u st all arrived s
  have current := fun op => failUnit_current u st all arrived s (op := op)
  have cyl := failUnit_controllerCyl u st all arrived s
  generalize failUnit u st all arrived s = t at background current cyl
  rcases h with hb | hcyl
  · have reads : (noteDriveFault t).ReadsOn fun _ => False := .inr ⟨fun _ => id, background hb⟩
    exact (Follows.refl.settleJobs reads).fault nofun rfl
  · have reads : (noteDriveFault t).ReadsOn fun v => (s.unit v).controllerCyl ≠ some 1023 :=
      .inl fun op ho => hcyl op (current op ho)
    refine (Follows.refl.settleJobs reads).fault (fun v hv => ?_) rfl
    have e : ((noteDriveFault t).unit v).controllerCyl = _ := cyl v
    rw [e]
    split
    · nofun
    · exact hv

end

/-! ### The commands -/

/-- The failed unit after the jobs have found where they stand. -/
theorem settleJobs_failed {u : UnitNo} {e : UnitEntry} {t : State}
    (h : ∃ o h c, t.unit u = UnitEntry.astray { e.stopped with owner := o, hold := h, counters := c }) :
    ∃ o h c, (settleJobs t).unit u =
      UnitEntry.astray { e.stopped with owner := o, hold := h, counters := c } := by
  obtain ⟨_, _, _, ht⟩ := h
  have released := (settleJobs_follows t).unit u
  rw [ht] at released
  exact released.still rfl rfl

/-- A line that the drive has in that state already changes nothing. -/
theorem lineChange_same {u : UnitNo} {line : UnitEntry → UnitEntry} {joined f : State → State}
    (hopen : s.bypassOpen = true) (hline : line (s.unit u) = s.unit u)
    (hf : f (beginCommand [] s) = beginCommand [] s) :
    lineChange u line joined f s = { s with
      units := (lineChange u line joined f s).units, out := [], noise := [] } ∧
    ∀ v, (lineChange u line joined f s).unit v = s.unit v := by
  rw [lineChange_open u line joined f hopen, hf]
  refine ⟨rfl, fun v => ?_⟩
  rw [modUnit_unit]
  split
  · subst_vars
    exact hline
  · rfl

section
variable (u : UnitNo) (st : Status) (all : Bool) (arrived : List Word) (before : UnitEntry → UnitEntry)
  (s : State)

/-- Unit `u` failed as its line changed. -/
def failChanged : State := failUnit u st all arrived (modUnit u before (beginCommand [] s))

theorem failChanged_unit : ∃ o h c, (failChanged u st all arrived before s).unit u =
    UnitEntry.astray { (before (s.unit u)).stopped with owner := o, hold := h, counters := c } := by
  have failed := failUnit_unit u st all arrived (modUnit u before (beginCommand [] s))
  rw [modUnit_unit_same] at failed
  exact failed

theorem failChanged_failed : FailedUnit u st all (modUnit u before (beginCommand [] s))
    (failChanged u st all arrived before s) := failUnit_failed ..

end

/-- The unit with DRIVE FAULT reported (R53). -/
def UnitEntry.faulted (e : UnitEntry) : UnitEntry := { e with faultLine := true }

/-- The unit with READY down, another pack to come, and no SEEK FAULT shown (R55). -/
def UnitEntry.fallen (e : UnitEntry) : UnitEntry :=
  { e with readyLine := false, ready := false, generation := e.generation + 1, seekFaultShown := false }

/-- An onset of DRIVE FAULT. -/
theorem exec_driveFault {u : UnitNo} (arrived : List Word) (hopen : s.bypassOpen = true)
    (hf : (s.unit u).faultLine = false) :
    ∃ t, exec (.driveFault u arrived) s = .next t ∧ FailedUnit u .driveFault false s t ∧
      (∃ o h c, t.unit u =
        UnitEntry.astray { (s.unit u).faulted.stopped with owner := o, hold := h, counters := c }) ∧
      ((∀ j ∈ s.jobList, j.foreground = false) ∨
          (∀ op, s.current = some op → (s.unit op.unit).controllerCyl ≠ some 1023) →
        t.notices.driveFault = true) := by
  have onset : faultOnset u arrived (beginCommand [] s) = settleJobs (noteDriveFault
      (failChanged u .driveFault false arrived UnitEntry.faulted s)) := if_neg (Bool.eq_false_iff.1 hf)
  have e := lineChange_open u UnitEntry.faulted (joinedCut u arrived) (faultOnset u arrived) hopen
  rw [onset] at e
  have failed := failChanged_failed u .driveFault false arrived UnitEntry.faulted s
  have unit := failChanged_unit u .driveFault false arrived UnitEntry.faulted s
  have notice := settleJobs_noteDriveFault u .driveFault false arrived
    (modUnit u UnitEntry.faulted (beginCommand [] s))
  rw [← failChanged] at notice
  generalize failChanged u .driveFault false arrived UnitEntry.faulted s = t at e failed unit notice
  have noted : FailedUnit u .driveFault false _ (noteDriveFault t) := { failed with }
  obtain ⟨o, h, c, settled⟩ := settleJobs_failed (t := noteDriveFault t) unit
  refine ⟨_, congrArg Host.Outcome.next e, noted.settleJobs.lineChanged rfl (by intro; exact ⟨rfl, rfl⟩),
    ⟨o, h, c, ?_⟩, fun hn => notice (hn.imp id fun hcyl op ho => ?_)⟩
  · rw [modUnit_unit_same]
    exact congrArg UnitEntry.faulted settled
  · rw [modUnit_unit]
    split
    · rename_i hu
      exact hu ▸ hcyl op ho
    · exact hcyl op ho

/-- A fall of READY. -/
theorem exec_readyFall {u : UnitNo} (arrived : List Word) (hopen : s.bypassOpen = true)
    (hr : (s.unit u).readyLine = true) :
    ∃ t, exec (.readyFall u arrived) s = .next t ∧ FailedUnit u .notReady true s t ∧
      ∃ o h c, t.unit u =
        UnitEntry.astray { (s.unit u).fallen.stopped with owner := o, hold := h, counters := c } := by
  have up : ((beginCommand [] s).unit u).readyLine = true := hr
  have fall : readyDown u arrived (beginCommand [] s) = settleJobs
      (failChanged u .notReady true arrived UnitEntry.fallen s) := if_neg (by simp [up])
  have e := lineChange_open u (fun e => { e with readyLine := false }) (joinedCut u arrived)
    (readyDown u arrived) hopen
  rw [fall] at e
  have failed := failChanged_failed u .notReady true arrived UnitEntry.fallen s
  obtain ⟨o, h, c, settled⟩ := settleJobs_failed (failChanged_unit u .notReady true arrived UnitEntry.fallen s)
  generalize failChanged u .notReady true arrived UnitEntry.fallen s = t at e failed settled
  refine ⟨_, congrArg Host.Outcome.next e, failed.settleJobs.lineChanged rfl (by intro; exact ⟨rfl, rfl⟩),
    o, h, c, ?_⟩
  rw [modUnit_unit_same]
  exact congrArg (fun e : UnitEntry => { e with readyLine := false }) settled

/-- A DRIVE FAULT already reported, or a READY already down, changes nothing (log 32). -/
theorem exec_failed_again {u : UnitNo} {i : Instr} {arrived : List Word} (hopen : s.bypassOpen = true)
    (hi : i = .driveFault u arrived ∧ (s.unit u).faultLine = true ∨
      i = .readyFall u arrived ∧ (s.unit u).readyLine = false) :
    ∃ t, exec i s = .next t ∧ t = { s with units := t.units, out := [], noise := [] } ∧
      ∀ v, t.unit v = s.unit v := by
  rcases hi with ⟨rfl, h⟩ | ⟨rfl, h⟩
  · refine ⟨_, rfl, lineChange_same hopen ?_ (if_pos h)⟩
    rw [← h]
  · refine ⟨_, rfl, lineChange_same hopen ?_ (if_pos ?_)⟩
    · rw [← h]
    · have down : ((beginCommand [] s).unit u).readyLine = false := h
      simp [down]

/-- The generation counts to 4096 and wraps (R55). -/
theorem toNat_next (g : BitVec 12) : (g + 1).toNat = (g.toNat + 1) % 4096 := BitVec.toNat_add ..

/-- The unit's entry shows no motion and nothing known of its cylinders, its seeks and its tracks. -/
theorem UnitEntry.astray_stopped {e x : UnitEntry} {o : Option Nat} {h : Option Hold} {c : Counters}
    (he : e = UnitEntry.astray { x.stopped with owner := o, hold := h, counters := c }) :
    e.motion = none ∧ e.recovery = none ∧ e.driveCyl = none ∧ e.controllerCyl = none ∧
      e.seekPending = false ∧ e.offTrack = 0 ∧ e.countedTrack = none := by
  rw [he]
  exact ⟨rfl, rfl, rfl, rfl, rfl, rfl, rfl⟩

/-- The controller on the failed unit has its answer, and its hold is over. -/
theorem FailedUnit.told {u : UnitNo} {st : Status} {all : Bool} {t : State} (h : FailedUnit u st all s t)
    {op : ControllerOp} (ho : s.current = some op) (hu : op.unit = u)
    (hall : all = true ∨ receivingWrite op = false) :
    t.current = none ∧ (t.unit u).hold = none ∧ .answer u (.status st) ∈ t.out := by
  subst hu
  exact h.answered op ho rfl hall

/-- Settles O27: what a failed unit is left with is `FailedUnit`, and its entry in the unit table and the notice
are as the two commands give them. -/
theorem unitFails : Obligations.UnitFails := by
  intro s u i arrived hopen
  refine ⟨exec_failed_again hopen, ?_⟩
  rintro (⟨rfl, hf⟩ | ⟨rfl, hr⟩)
  · obtain ⟨t, hexec, failed, ⟨o, h, c, e⟩, notice⟩ := exec_driveFault arrived hopen hf
    obtain ⟨hmotion, hrecovery, hdrive, hcontroller, hseek, hoff, htrack⟩ :=
      UnitEntry.astray_stopped e
    refine ⟨t, hexec, failed.jobs, failed.grant, hmotion, hrecovery, hdrive, hcontroller, hseek, hoff, htrack,
      failed.items, failed.owner, fun op ho hu hw => ?_,
      fun op x ho hu hi hx hw hb hown => (failed.waiting op x ho hu hi hx hw hb hown).1,
      fun g k x hg hu hk hop hx hown => (failed.reading g k x hg hu hk hop hx hown).1,
      fun _ => ⟨?_, notice, ?_, ?_⟩, nofun⟩
    · rw [if_pos rfl]
      exact failed.told ho hu (.inr (hw rfl))
    · rw [e]
      rfl
    · rw [presented_driveFault, e]
      rfl
    · rw [e]
      rfl
  · obtain ⟨t, hexec, failed, o, h, c, e⟩ := exec_readyFall arrived hopen hr
    obtain ⟨hmotion, hrecovery, hdrive, hcontroller, hseek, hoff, htrack⟩ :=
      UnitEntry.astray_stopped e
    refine ⟨t, hexec, failed.jobs, failed.grant, hmotion, hrecovery, hdrive, hcontroller, hseek, hoff, htrack,
      failed.items, failed.owner, fun op ho hu _ => ?_,
      fun op x ho hu hi hx hw hb hown => (failed.waiting op x ho hu hi hx hw hb hown).1,
      fun g k x hg hu hk hop hx hown => (failed.reading g k x hg hu hk hop hx hown).1,
      nofun, fun _ => ⟨?_, ?_, ?_, ?_, ?_⟩⟩
    · rw [if_neg nofun]
      exact failed.told ho hu (.inl rfl)
    · rw [e]
      rfl
    · rw [e]
      rfl
    · rw [presented_ready, e]
      rfl
    · rw [e]
      rfl
    · rw [e]
      exact toNat_next _

end Sys2Proof.Machine
end
